-- ==== Sys2Proof/Word.lean ====
section
/-! DEFINITION. The three word sizes of the manual: link bytes, the 16-bit fields of frames, and the 32-bit words of the
media format (R1, R165). -/

namespace Sys2Proof

/-- One byte of a frame or of a sector payload. -/
abbrev Byte := BitVec 8

/-- A two-byte field of a frame (cylinder, count, length, check). -/
abbrev Half := BitVec 16

/-- A four-byte field of a frame, and a word of the media (Table 1-1). -/
abbrev Word := BitVec 32

end Sys2Proof
end

