-- ==== Sys2Proof/Config.lean ====
section
/-! DEFINITION. The sizes that Table 0-1 and the chapters fix, and the values the manual leaves open. The open values have no
body: a proof can use nothing of them but their type. -/

namespace Sys2Proof

/-- FREE VALUE (R12, R13). How many bytes had passed under the open write gate, at the n-th write cut short. -/
opaque Config.gateFall : Nat → Nat

/-- FREE VALUE (R1, R4). Data word `k` of a slot nobody has written since the model began, by the slot's place key. -/
opaque Config.unwrittenWord (place k : Nat) : Word

/-- FREE VALUE (Table 1-1). The fixed synchronisation pattern, by its byte number. -/
opaque Config.syncPattern : Nat → Byte

/-- FREE VALUE (Table 1-1). The data sync pattern, by its byte number. -/
opaque Config.dataSyncPattern : Nat → Byte

/-- FREE VALUE (Table 1-1). The gap filler, by its byte number in the slot. -/
opaque Config.gapFiller : Nat → Byte

/-- FREE VALUE (R4, R12). A byte of a region that holds nothing recoverable, by the slot's place key and its byte number in the
slot. -/
opaque Config.unreadableByte (place offset : Nat) : Byte

/-- FREE VALUE (Table 9-8, R175). The four bytes sent for an absent fill word in a request STATUS record. -/
opaque Config.absentFillWord : Word

/-- FREE VALUE (Table 9-8, R175). The two bytes sent for an absent first suspect index in a request STATUS record. -/
opaque Config.absentSuspectIndex : Half

/-- Sector buffers in the pool (R151). -/
abbrev Config.bufferCount : Nat := 24

/-- Slots of the Request Table (R72). -/
abbrev Config.slotCount : Nat := 32

/-- Frames the inbound queue holds (R168). -/
abbrev Config.inboundRoom : Nat := 4

/-- Replies the reply queue holds (R170). -/
abbrev Config.replyRoom : Nat := 4

/-- DONE entries in the Stream at which handling waits (R169). -/
abbrev Config.doneRoom : Nat := 32

/-- The longest frame body (Table 9-1). -/
abbrev Config.maxBody : Nat := 1040

/-- The bytes of a frame besides its start byte and its body: kind, sequence, two of length, two of check (Table 9-1). -/
abbrev Config.framingBytes : Nat := 6

/-- The bytes of a frame between its start byte and its body: kind, sequence, two of length (Table 9-1). -/
abbrev Config.headBytes : Nat := 4

/-- The longest time between two bytes of a frame, in µs: 10 ms (R167). -/
abbrev Config.byteGap : Nat := 10000

/-- The longest ECHO body that is answered (R179). -/
abbrev Config.maxEcho : Nat := 1035

/-- Data words of a sector (R5). -/
abbrev Config.sectorWords : Nat := 256

/-- Bytes of a sector payload (R5). -/
abbrev Config.payloadBytes : Nat := 1024

/-- The longest revolution period held, in µs (R56). -/
abbrev Config.maxPeriod : Nat := 16777215

end Sys2Proof
end

