-- ==== Sys2Proof/Syntax.lean ====
section
/-! DEFINITION. The commands of the block: one constructor of `Instr` for each row of spec/opcode_table.json, with the operands
the row's rules name. -/

namespace Sys2Proof

/-- A spindle port, numbered 0 to 7 (R14). -/
abbrev Port := Fin 8

/-- A request tag, the number of a slot of the Request Table (R72). -/
abbrev Tag := Fin 32

/-- A frame as the inbound queue holds it: the start, length and check bytes are the parser's (Table 9-1, R166). -/
structure Frame where
  kind : Byte
  seq : Byte
  body : List Byte
  deriving DecidableEq, Repr, Inhabited

/-- The body of a message whose row judges the length itself: its fields, or the bytes of a body whose length Table 9-3 does not
allow for the kind (R169). -/
inductive Body (α : Type) where
  | fields (m : α)
  | otherLength (bytes : List Byte)
  deriving DecidableEq, Repr

/-- SUBMIT's body (Table 9-3). -/
structure SubmitFields where
  tag : Byte
  kind : Byte
  spindle : Byte
  flags : Byte
  cylinder : Half
  surface : Byte
  sector : Byte
  count : Half
  /-- Present only in the body of 14 bytes. -/
  fill : Option Word
  deriving DecidableEq, Repr

/-- WDATA's body (Table 9-3). -/
structure WdataFields where
  tag : Byte
  index : Half
  payload : List Byte
  deriving DecidableEq, Repr

/-- What the head delivers at a header read (R4, R125). -/
inductive HeaderRead where
  /-- The slot's header as the media holds it where the device believes the head to be. -/
  | recorded
  /-- The three words read, whatever the model's media says (an arm elsewhere, a header of another party, a wrong read). -/
  | words (w0 w1 w2 : Word)
  /-- No recoverable sync or header. -/
  | unrecovered
  deriving DecidableEq, Repr

/-- What the head delivers at the end of a data field read (R6, R12). -/
inductive FieldRead where
  /-- The data words and check word as the media holds them. -/
  | recorded
  /-- The 256 words read and the check word read; no check word where the check region could not be read. -/
  | words (data : List Word) (check : Option Word)
  deriving DecidableEq, Repr

/-- The commands, in the order of spec/opcode_table.json. A message command is the handling of that message (R169): `seq` is the
host's sequence byte. -/
inductive Instr where
  | submit (seq : Byte) (m : Body SubmitFields)
  | wdata (seq : Byte) (m : Body WdataFields)
  | cancel (seq : Byte) (m : Body Byte)
  | configure (seq spindle : Byte) (cylinders : Half) (surfaces sectors : Byte)
  | deconfigure (seq spindle : Byte)
  | spinUp (seq spindle : Byte)
  | spinDown (seq spindle : Byte)
  | clearFault (seq spindle : Byte)
  | setpSpinLimit (seq : Byte) (value : Word)
  | setpSurgeLimit (seq : Byte) (value : Word)
  | setpSpinupTimeout (seq : Byte) (value : Word)
  | setpSpindownTimeout (seq : Byte) (value : Word)
  | setpIdleTimeout (seq : Byte) (value : Word)
  | setpSeekTimeout (seq : Byte) (value : Word)
  | setpRevLimit (seq : Byte) (value : Word)
  | setpRetryLimit (seq : Byte) (value : Word)
  | setpBurstLimit (seq : Byte) (value : Word)
  | setpAgeLimit (seq : Byte) (value : Word)
  | setpStageDepth (seq : Byte) (value : Word)
  | setpReadReserve (seq : Byte) (value : Word)
  | setpTrackFaultLimit (seq : Byte) (value : Word)
  | getp (seq : Byte) (m : Body Byte)
  | statusPart (seq number : Byte)
  | statusSpindle (seq number : Byte)
  | statusRequest (seq number : Byte)
  | echo (seq : Byte) (body : List Byte)
  | unknownKind (kind seq : Byte) (body : List Byte)
  | restart (seq : Byte) (body : List Byte)
  /-- The last check byte of a frame: what the parser took between the start byte and here (R166). -/
  | frameReceived (kind seq : Byte) (body : List Byte) (check : Half)
  /-- The length field found above 1,040 (R167). -/
  | lengthError (length : Half)
  | gapTimeout
  | frameTransmissionEnd
  | rstnAsserted
  | hardwareReset
  | presFalling (p : Port)
  | presRising (p : Port)
  /-- SPUN changes to this level. -/
  | spunChange (p : Port) (level : Bool)
  | ufltRising (p : Port)
  /-- WPR changes to this level. -/
  | wprLevelChange (p : Port) (level : Bool)
  | atnRising (p : Port)
  | sectorMark (p : Port)
  /-- An index mark at this moment of the time base, in µs (R46, R49). -/
  | indexMark (p : Port) (moment : Nat)
  | formatSlotWritten
  /-- The header of this slot of the selected track. -/
  | headerRead (slot : Nat) (read : HeaderRead)
  /-- What was read; the end of a written field ignores it. -/
  | dataFieldEnd (read : FieldRead)
  | skd (p : Port)
  | ske (p : Port)
  | motionTimerExpiry (p : Port)
  | spinUpTimerExpiry (p : Port)
  | spinDownTimerExpiry (p : Port)
  | idleTimerExpiry (p : Port)
  | ageTimerExpiry (t : Tag)
  | frameBegun
  | messageRefusedBadField (kind seq : Byte) (body : List Byte)
  deriving DecidableEq, Repr

end Sys2Proof
end

