-- ==== Sys2Proof/Machine/Bytes.lean ====
section
/-! DEFINITION. Byte order and bit fields: the least significant byte comes first in frames (R165) and on the media (R5). -/

namespace Sys2Proof.Machine

/-- A number as one byte of a frame (modulo 256). -/
def byteOf (n : Nat) : Byte := BitVec.ofNat 8 n

/-- The two bytes of a 16-bit field, least significant first (R165). -/
def le16 (h : Half) : List Byte := [h.extractLsb' 0 8, h.extractLsb' 8 8]

/-- The four bytes of a 32-bit field or media word, least significant first (R5, R165). -/
def le32 (w : Word) : List Byte :=
  [w.extractLsb' 0 8, w.extractLsb' 8 8, w.extractLsb' 16 8, w.extractLsb' 24 8]

/-- A number as a two-byte field. -/
def le16Nat (n : Nat) : List Byte := le16 (BitVec.ofNat 16 n)

/-- A number as a four-byte field. -/
def le32Nat (n : Nat) : List Byte := le32 (BitVec.ofNat 32 n)

/-- The 16-bit field of two bytes taken in frame order. -/
def halfOf (b0 b1 : Byte) : Half := b1 ++ b0

/-- The 32-bit word of four bytes taken in frame or media order. -/
def wordOf (b0 b1 b2 b3 : Byte) : Word := b3 ++ b2 ++ b1 ++ b0

/-- The data words of a payload: word k is bytes 4k to 4k+3 (R5). -/
def wordsOfBytes : List Byte → List Word
  | b0 :: b1 :: b2 :: b3 :: rest => wordOf b0 b1 b2 b3 :: wordsOfBytes rest
  | _ => []

/-- The payload of a data field (R5). -/
def bytesOfWords (ws : List Word) : List Byte := ws.flatMap le32

/-- A flag as a byte of a record: 1 set, 0 clear. DEDUCED (Table 9-4 gives 0 no, 1 yes for the suspect mark). -/
def flagByte (b : Bool) : Byte := if b then 1 else 0

/-- The bytes the check covers: kind, sequence, length, body (Table 9-1). -/
def checkedBytes (kind seq : Byte) (body : List Byte) : List Byte :=
  kind :: seq :: (le16Nat body.length ++ body)

/-- The check of a frame: the bitwise inverse of the sum of the checked bytes modulo 65536 (R165). -/
def frameCheck (kind seq : Byte) (body : List Byte) : Half :=
  ~~~ BitVec.ofNat 16 ((checkedBytes kind seq body).foldl (fun n b => n + b.toNat) 0)

/-- The bytes of a frame on the line (Table 9-1). -/
def frameBytes (kind seq : Byte) (body : List Byte) : List Byte :=
  0xB6 :: (checkedBytes kind seq body ++ le16 (frameCheck kind seq body))

end Sys2Proof.Machine
end

