-- ==== Sys2Proof/Decode.lean ====
section
/-! DEFINITION. Which command a queued frame is (Tables 9-2 and 9-3, R169), the frame of a message command, and
`decodeTableWord`: no row of spec/opcode_table.json gives bits, so no word spells a command. -/

namespace Sys2Proof

open Sys2Proof.Machine

/-- SUBMIT's body of 10 bytes, or of 14 with a fill word (Table 9-3). -/
def submitBody : List Byte → Body SubmitFields
  | [tag, kind, spindle, flags, c0, c1, surface, sector, n0, n1] =>
    .fields ⟨tag, kind, spindle, flags, halfOf c0 c1, surface, sector, halfOf n0 n1, none⟩
  | [tag, kind, spindle, flags, c0, c1, surface, sector, n0, n1, f0, f1, f2, f3] =>
    .fields ⟨tag, kind, spindle, flags, halfOf c0 c1, surface, sector, halfOf n0 n1, some (wordOf f0 f1 f2 f3)⟩
  | bytes => .otherLength bytes

/-- WDATA's body of 1,027 bytes (Table 9-3). -/
def wdataBody (bytes : List Byte) : Body WdataFields :=
  match bytes with
  | tag :: i0 :: i1 :: payload =>
    if payload.length = Config.payloadBytes then .fields ⟨tag, halfOf i0 i1, payload⟩ else .otherLength bytes
  | _ => .otherLength bytes

/-- A body of one byte: CANCEL and GETP (Table 9-3). -/
def oneByteBody : List Byte → Body Byte
  | [b] => .fields b
  | bytes => .otherLength bytes

/-- A UNITCTL frame's command: the row of its action, or the BAD_FIELD row where length and action name none (R17). -/
def decodeUnitctl (seq : Byte) (body : List Byte) : Instr :=
  match body with
  | [spindle, action] =>
    match action.toNat with
    | 2 => .deconfigure seq spindle
    | 3 => .spinUp seq spindle
    | 4 => .spinDown seq spindle
    | 5 => .clearFault seq spindle
    | _ => .messageRefusedBadField 0x04 seq body
  | [spindle, action, c0, c1, h, s] =>
    if action = 1 then .configure seq spindle (halfOf c0 c1) h s else .messageRefusedBadField 0x04 seq body
  | _ => .messageRefusedBadField 0x04 seq body

/-- A SETP frame's command, by its parameter id (Table 9-9, R178). -/
def decodeSetp (seq : Byte) (body : List Byte) : Instr :=
  match body with
  | [id, v0, v1, v2, v3] =>
    let value := wordOf v0 v1 v2 v3
    match id.toNat with
    | 1 => .setpSpinLimit seq value
    | 2 => .setpSurgeLimit seq value
    | 3 => .setpSpinupTimeout seq value
    | 4 => .setpSpindownTimeout seq value
    | 5 => .setpIdleTimeout seq value
    | 6 => .setpSeekTimeout seq value
    | 7 => .setpRevLimit seq value
    | 8 => .setpRetryLimit seq value
    | 9 => .setpBurstLimit seq value
    | 10 => .setpAgeLimit seq value
    | 11 => .setpStageDepth seq value
    | 12 => .setpReadReserve seq value
    | 13 => .setpTrackFaultLimit seq value
    | _ => .messageRefusedBadField 0x05 seq body
  | _ => .messageRefusedBadField 0x05 seq body

/-- A STATUS frame's command, by its selector (Table 9-3, R176). -/
def decodeStatus (seq : Byte) (body : List Byte) : Instr :=
  match body with
  | [selector, number] =>
    match selector.toNat with
    | 0 => .statusPart seq number
    | 1 => .statusSpindle seq number
    | 2 => .statusRequest seq number
    | _ => .messageRefusedBadField 0x07 seq body
  | _ => .messageRefusedBadField 0x07 seq body

/-- The command whose handling a queued frame asks for. Total: every frame is some row's (R169). -/
def decodeFrame (f : Frame) : Instr :=
  match f.kind.toNat with
  | 1 => .submit f.seq (submitBody f.body)
  | 2 => .wdata f.seq (wdataBody f.body)
  | 3 => .cancel f.seq (oneByteBody f.body)
  | 4 => decodeUnitctl f.seq f.body
  | 5 => decodeSetp f.seq f.body
  | 6 => .getp f.seq (oneByteBody f.body)
  | 7 => decodeStatus f.seq f.body
  | 8 => .restart f.seq f.body
  | 9 => .echo f.seq f.body
  | _ => .unknownKind f.kind f.seq f.body

/-- SUBMIT's body as bytes (Table 9-3). -/
def encodeSubmit (m : SubmitFields) : List Byte :=
  [m.tag, m.kind, m.spindle, m.flags] ++ le16 m.cylinder ++ [m.surface, m.sector] ++ le16 m.count ++
    (match m.fill with
      | none => []
      | some w => le32 w)

/-- WDATA's body as bytes (Table 9-3). -/
def encodeWdata (m : WdataFields) : List Byte := m.tag :: (le16 m.index ++ m.payload)

/-- The bytes of a body that keeps its odd length. -/
def encodeBody {α : Type} (enc : α → List Byte) : Body α → List Byte
  | .fields m => enc m
  | .otherLength bytes => bytes

/-- A SETP frame (Table 9-3). -/
def setpFrame (id seq : Byte) (value : Word) : Frame := ⟨0x05, seq, id :: le32 value⟩

/-- The frame a message command handles; an event of the block has none. -/
def encodeFrame : Instr → Option Frame
  | .submit seq m => some ⟨0x01, seq, encodeBody encodeSubmit m⟩
  | .wdata seq m => some ⟨0x02, seq, encodeBody encodeWdata m⟩
  | .cancel seq m => some ⟨0x03, seq, encodeBody (fun b => [b]) m⟩
  | .configure seq spindle c h s => some ⟨0x04, seq, [spindle, 1] ++ le16 c ++ [h, s]⟩
  | .deconfigure seq spindle => some ⟨0x04, seq, [spindle, 2]⟩
  | .spinUp seq spindle => some ⟨0x04, seq, [spindle, 3]⟩
  | .spinDown seq spindle => some ⟨0x04, seq, [spindle, 4]⟩
  | .clearFault seq spindle => some ⟨0x04, seq, [spindle, 5]⟩
  | .setpSpinLimit seq v => some (setpFrame 1 seq v)
  | .setpSurgeLimit seq v => some (setpFrame 2 seq v)
  | .setpSpinupTimeout seq v => some (setpFrame 3 seq v)
  | .setpSpindownTimeout seq v => some (setpFrame 4 seq v)
  | .setpIdleTimeout seq v => some (setpFrame 5 seq v)
  | .setpSeekTimeout seq v => some (setpFrame 6 seq v)
  | .setpRevLimit seq v => some (setpFrame 7 seq v)
  | .setpRetryLimit seq v => some (setpFrame 8 seq v)
  | .setpBurstLimit seq v => some (setpFrame 9 seq v)
  | .setpAgeLimit seq v => some (setpFrame 10 seq v)
  | .setpStageDepth seq v => some (setpFrame 11 seq v)
  | .setpReadReserve seq v => some (setpFrame 12 seq v)
  | .setpTrackFaultLimit seq v => some (setpFrame 13 seq v)
  | .getp seq m => some ⟨0x06, seq, encodeBody (fun b => [b]) m⟩
  | .statusPart seq n => some ⟨0x07, seq, [0, n]⟩
  | .statusSpindle seq n => some ⟨0x07, seq, [1, n]⟩
  | .statusRequest seq n => some ⟨0x07, seq, [2, n]⟩
  | .echo seq body => some ⟨0x09, seq, body⟩
  | .unknownKind kind seq body => some ⟨kind, seq, body⟩
  | .restart seq body => some ⟨0x08, seq, body⟩
  | .messageRefusedBadField kind seq body => some ⟨kind, seq, body⟩
  | .frameReceived _ _ _ _ => none
  | .lengthError _ => none
  | .gapTimeout => none
  | .frameTransmissionEnd => none
  | .rstnAsserted => none
  | .hardwareReset => none
  | .presFalling _ => none
  | .presRising _ => none
  | .spunChange _ _ => none
  | .ufltRising _ => none
  | .wprLevelChange _ _ => none
  | .atnRising _ => none
  | .sectorMark _ => none
  | .indexMark _ _ => none
  | .formatSlotWritten => none
  | .headerRead _ _ => none
  | .dataFieldEnd _ => none
  | .skd _ => none
  | .ske _ => none
  | .motionTimerExpiry _ => none
  | .spinUpTimerExpiry _ => none
  | .spinDownTimerExpiry _ => none
  | .idleTimerExpiry _ => none
  | .ageTimerExpiry _ => none
  | .frameBegun => none

/-- The command a word of the opcode table spells. The table gives no row bits, so there is none. -/
def decodeTableWord (_nbits _w : Nat) : Option Instr := none

end Sys2Proof
end

