-- ==== Sys2Proof/Machine/State.lean ====
section
/-! DEFINITION. The state of the SQ820: the records of its ten blocks (Table 0-2), the port lines, the media, the waiting
commands, and the state after reset (R183). Times and deadlines are in µs of the time base `now`. -/

namespace Sys2Proof.Machine

/-- No command of this block stops the machine: an event that cannot occur is not taken, and the state stands. -/
inductive Fault where
  deriving DecidableEq, Repr

/-- Why a command has no meaning. -/
inductive Refusal where
  /-- Raised by an arm of `exec` whose command is not modelled yet; no arm raises it. Safe: nothing is claimed of the command. -/
  | notModelled (mnemonic : String)
  deriving DecidableEq, Repr

/-- A sector address (R7). -/
structure Addr where
  cylinder : Nat
  surface : Nat
  sector : Nat
  deriving DecidableEq, Repr, Inhabited

/-- A spindle's geometry: C cylinders, H surfaces, S sectors per track (Table 1-3). -/
structure Geometry where
  cylinders : Nat
  surfaces : Nat
  sectors : Nat
  deriving DecidableEq, Repr, Inhabited

/-- The eight spindle states (Table 2-3). -/
inductive SpindleState where
  | unconfigured | absent | parked | spinWait | spinningUp | ready | spinningDown | faulted
  deriving DecidableEq, Repr, Inhabited

/-- Fault causes (Table 2-5). -/
inductive Cause where
  | unitFault | spinupTimeout | spindownTimeout | speedLost | tracking | restoreFailed
  deriving DecidableEq, Repr, Inhabited

/-- The levels on a port's status lines that are taken as levels (Table 2-1). -/
structure Lines where
  pres : Bool
  spun : Bool
  wpr : Bool
  deriving DecidableEq, Repr, Inhabited

/-- A tracker record (Table 3-1). -/
structure Tracker where
  tracked : Bool
  sector : Nat
  errors : Nat
  period : Option Nat
  indexTime : Option Nat
  deriving DecidableEq, Repr, Inhabited

/-- The tracker's values after hardware reset and outside the spinning states (R44). -/
abbrev Tracker.cleared : Tracker := ⟨false, 0, 0, none, none⟩

/-- An arm record (Tables 4-1 and 4-2): each state with the cylinder, owner and motion timer deadline that it has. -/
inductive Arm where
  | unknown
  | restoring (deadline : Nat)
  | settled (cylinder : Nat)
  | seeking (target : Nat) (owner : Option Tag) (deadline : Nat)
  deriving DecidableEq, Repr, Inhabited

/-- A port's order lines: the cylinder value lines (R58), and how often each order has been strobed since the reset. -/
structure Orders where
  cylinderLines : Nat
  seekStrobes : Nat
  restoreStrobes : Nat
  deriving DecidableEq, Repr, Inhabited

/-- All the device keeps of one spindle port: the spindle record (Table 2-2), the tracker, the arm, and the port's lines. -/
structure Spindle where
  state : SpindleState
  geometry : Option Geometry
  pinned : Bool
  respin : Bool
  cause : Option Cause
  spinUpTimer : Option Nat
  spinDownTimer : Option Nat
  idleTimer : Option Nat
  tracker : Tracker
  arm : Arm
  orders : Orders
  lines : Lines
  deriving DecidableEq, Repr, Inhabited

/-- Request kinds (Table 5-1). -/
inductive Kind where
  | read | write | verify | format
  deriving DecidableEq, Repr, Inhabited

/-- Request flags (Table 5-3). -/
structure Flags where
  barrier : Bool
  urgent : Bool
  tolerate : Bool
  verifyAfter : Bool
  noRetry : Bool
  deriving DecidableEq, Repr, Inhabited

/-- Hold reasons (Table 5-5). -/
structure Holds where
  spindle : Bool
  barrier : Bool
  noData : Bool
  noBuffer : Bool
  deriving DecidableEq, Repr, Inhabited

/-- Request states (Table 5-4). -/
inductive Status where
  | held | queued | active
  deriving DecidableEq, Repr, Inhabited

/-- A sector buffer in use, with the tag and index it serves (section 8.1). -/
structure Buffer where
  tag : Tag
  index : Nat
  payload : List Byte
  deriving DecidableEq, Repr, Inhabited

/-- A request record (Table 5-1) and its age timer (R89), which is stopped once the request is overdue. -/
structure Request where
  tag : Tag
  kind : Kind
  spindle : Port
  start : Addr
  count : Nat
  flags : Flags
  fill : Option Word
  admitted : Nat
  status : Status
  holds : Holds
  next : Addr
  done : Nat
  suspects : Nat
  firstSuspect : Option Nat
  retries : Nat
  budget : Nat
  overdue : Bool
  cancelPending : Bool
  frontier : Nat
  staged : List Buffer
  ageTimer : Option Nat
  deriving DecidableEq, Repr, Inhabited

/-- Outcomes of a request (Table 5-7). -/
inductive Outcome where
  | complete | completeSuspect | cancelled | dataCheck | sectorNotFound | positionError | verifyMismatch | writeProtected
  | spindleFault | spindleAbsent
  deriving DecidableEq, Repr, Inhabited

/-- A DONE record (Table 5-6). -/
structure DoneRecord where
  tag : Tag
  outcome : Outcome
  done : Nat
  next : Addr
  retries : Nat
  suspects : Nat
  firstSuspect : Option Nat
  cause : Option Cause
  failing : Option Addr
  deriving DecidableEq, Repr, Inhabited

/-- An entry of the Stream (R174); an RDATA entry holds one buffer. -/
inductive StreamEntry where
  | rdata (buffer : Buffer) (spindle : Port) (addr : Addr) (suspect : Bool)
  | done (record : DoneRecord)
  deriving DecidableEq, Repr

/-- The endings that wait for a verify pass (Table 7-4). -/
inductive Ending where
  | runEnd | burstLimit | trackEnd | cylinderEnd | stagedEmpty | positionError | searchFailure | writeProtected
  deriving DecidableEq, Repr, Inhabited

/-- An entry of the verify-pending list (Table 7-2). -/
structure PendingEntry where
  index : Nat
  buffer : Buffer
  check : Word
  deriving DecidableEq, Repr, Inhabited

/-- What the engaged channel is doing (Table 7-1), with the buffer in work and what it keeps of the sector in work (R125):
the matched header's word 0 and the slot. -/
inductive Phase where
  | search
  /-- DATA for a READ: one buffer in work is being filled. -/
  | readField (word0 : Word) (slot : Nat)
  /-- DATA for a WRITE: the staged buffer being written; the write gate is open. -/
  | writeField (word0 : Word) (slot : Nat) (buffer : Buffer)
  /-- DATA for a VERIFY request: no buffer. -/
  | verifyField (word0 : Word) (slot : Nat)
  /-- VERIFY, the verify pass: the pending sector being read, if one is. -/
  | pass (reading : Option (Word × Nat))
  | formatWait
  /-- FORMAT_WRITE: the gate is open in a slot and closed between its trailing gap and the next mark (R142). -/
  | formatWrite (gateOpen : Bool)
  deriving DecidableEq, Repr, Inhabited

/-- The channel record while a request is engaged (Table 7-2), with `slotMarked`: the slot now passing had its mark taken since
the search began, and its header is not read yet (R123); and `lastJudged`: the last header that the verify pass judges has been
judged, and began a read (R139). -/
structure Engagement where
  tag : Tag
  spindle : Port
  surface : Nat
  index : Nat
  target : Addr
  burst : Nat
  searchIndex : Nat
  searchMarks : Nat
  slotMarked : Bool
  lastJudged : Bool
  pending : List PendingEntry
  deferred : Option Ending
  phase : Phase
  deriving DecidableEq, Repr, Inhabited

/-- The 13 parameters (Table 9-9), in the units of the table. -/
structure Params where
  spinLimit : Nat
  surgeLimit : Nat
  spinupTimeout : Nat
  spindownTimeout : Nat
  idleTimeout : Nat
  seekTimeout : Nat
  revLimit : Nat
  retryLimit : Nat
  burstLimit : Nat
  ageLimit : Nat
  stageDepth : Nat
  readReserve : Nat
  trackFaultLimit : Nat
  deriving DecidableEq, Repr, Inhabited

/-- The defaults of Table 9-9 (R177). -/
abbrev Params.defaults : Params := ⟨4, 1, 20, 30, 120, 500, 3, 2, 64, 2000, 8, 2, 3⟩

/-- The parser of the receive side (R166): HUNT, or FRAME with whether the frame began with room in the inbound queue and the moment
of its start byte, from which the gap limit of R167 is measured. -/
inductive Parser where
  | hunt
  | frame (room : Bool) (begun : Nat)
  deriving DecidableEq, Repr, Inhabited

/-- Reply codes (Table 9-5). -/
inductive Code where
  | ok | badField | unknownKind | tagInUse | noSuchTag | noSpindle | spindleAbsent | spindleFaulted | range | writeProtected
  | window | noBuffer | busy | wrongState | limitInUse | cancelling
  deriving DecidableEq, Repr, Inhabited

/-- A reply in the reply queue (R170). -/
structure Reply where
  kind : Byte
  seq : Byte
  code : Code
  freeBuffers : Nat
  freeSlots : Nat
  further : List Byte
  deriving DecidableEq, Repr, Inhabited

/-- A device frame in transmission (R173); an RDATA frame keeps its buffer until it ends (R161). -/
structure OutFrame where
  kind : Byte
  seq : Byte
  body : List Byte
  holdsBuffer : Bool
  deriving DecidableEq, Repr, Inhabited

/-- The kinds of event posted into a record (Table 10-1). -/
structure EventSet where
  stateChange : Bool
  wprChange : Bool
  positionLost : Bool
  armLost : Bool
  attention : Bool
  deriving DecidableEq, Repr, Inhabited

/-- An event record (Table 10-1). -/
structure EventRecord where
  spindle : Port
  set : EventSet
  stateNow : SpindleState
  cause : Option Cause
  count : Nat
  deriving DecidableEq, Repr, Inhabited

/-- The notice record (Table 10-3). -/
structure Notice where
  checkFailures : Nat
  lengthErrors : Nat
  gapTimeouts : Nat
  overruns : Nat
  deriving DecidableEq, Repr, Inhabited

/-- The notice record with nothing to report (R191). -/
abbrev Notice.zero : Notice := ⟨0, 0, 0, 0⟩

/-- What one sector slot of the media holds, region by region in the order of Table 1-1: whether the sync pattern is recorded; the
header's three words, or none that can be recovered (R4); whether the gap with its data sync pattern is recorded; the data words; the
check word, or a check region that cannot be read (R12); whether the trailing gap is recorded. -/
structure Slot where
  sync : Bool
  header : Option (Word × Word × Word)
  gap : Bool
  data : List Word
  check : Option Word
  trailing : Bool
  deriving DecidableEq, Repr, Inhabited

/-- The state of the block, its port lines, the units' media, and the commands that wait. `cutOff`: the entry of an RDATA whose frame an
assertion of RSTn cut off still holds its buffer, until the release (R161, R184). -/
structure State where
  pending : List Instr
  now : Nat
  freeUses : Nat
  media : List (Nat × Slot)
  inReset : Bool
  spindles : Vector Spindle 8
  waitList : List Port
  activity : List Port
  table : List Request
  choiceHold : Bool
  chan : Option Engagement
  stopRequest : Bool
  free : Nat
  parser : Parser
  inbound : List Frame
  replies : List Reply
  stream : List StreamEntry
  line : Option OutFrame
  cutOff : Bool
  partSeq : Byte
  params : Params
  restart : Option Byte
  events : List EventRecord
  notice : Notice
  deriving DecidableEq, Repr

/-- A spindle port after hardware reset (R16, R44, R57), with these levels on its lines. -/
abbrev Spindle.reset (lines : Lines) : Spindle where
  state := .unconfigured
  geometry := none
  pinned := false
  respin := false
  cause := none
  spinUpTimer := none
  spinDownTimer := none
  idleTimer := none
  tracker := .cleared
  arm := .unknown
  orders := ⟨0, 0, 0⟩
  lines := lines

/-- The state right after hardware reset (R183 and the rules it names). DESIGN CHOICE: the time base, the port line levels and
the media, which the manual gives no value. -/
def State.reset : State where
  pending := []
  now := 0
  freeUses := 0
  media := []
  inReset := false
  spindles := Vector.replicate 8 (Spindle.reset ⟨false, false, false⟩)
  waitList := []
  activity := []
  table := []
  choiceHold := false
  chan := none
  stopRequest := false
  free := Config.bufferCount
  parser := .hunt
  inbound := []
  replies := []
  stream := []
  line := none
  cutOff := false
  partSeq := 0
  params := .defaults
  restart := none
  events := []
  notice := .zero

end Sys2Proof.Machine
end

