-- ==== Sys2Proof/Machine/Media.lean ====
section
/-! DEFINITION. The media format: headers and their classes (R2 to R4), check words (R6), the regions and bytes of a slot (R1, Table
1-1), and what data writes and formats leave, whole or cut short (R10 to R13). -/

namespace Sys2Proof.Machine

/-- Header classes (Table 1-2); only FORMATTED designates an address. -/
inductive HeaderClass where
  | invalid | unformatted
  | formatted (a : Addr)
  deriving DecidableEq, Repr

/-- The header check (R4). -/
def headerCheck (w0 w1 : Word) : Word := ~~~ (w0 ^^^ w1)

/-- The class of a header as read (R2 to R4). -/
def classifyHeader : Option (Word × Word × Word) → HeaderClass
  | none => .invalid
  | some (w0, w1, w2) =>
    if w2 = headerCheck w0 w1 then
      if w1.getLsbD 31 then
        .formatted ⟨(w0.extractLsb' 16 16).toNat, (w0.extractLsb' 0 16).toNat, (w1.extractLsb' 0 16).toNat⟩
      else .unformatted
    else .invalid

/-- Header word 0 of an address (R2). -/
def headerWord0 (a : Addr) : Word := BitVec.ofNat 16 a.cylinder ++ BitVec.ofNat 16 a.surface

/-- Header word 1 of a formatted sector (R3). -/
def headerWord1 (sector : Nat) : Word := 0x8000#16 ++ BitVec.ofNat 16 sector

/-- The header a FORMAT writes for an address (R11). -/
def formatHeader (a : Addr) : Word × Word × Word :=
  (headerWord0 a, headerWord1 a.sector, headerCheck (headerWord0 a) (headerWord1 a.sector))

/-- The check word of a data field under a header word 0 (R6). -/
def checkWord (data : List Word) (w0 : Word) : Word := data.foldl (· ^^^ ·) 0 ^^^ w0

/-! ### The layout of a slot -/

/-- The regions of a slot (Table 1-1); the gap is its filler and its data sync pattern. -/
inductive Region where
  | sync | headerWord0 | headerWord1 | headerWord2 | gapFiller | dataSync | dataField | checkWord | trailingGap
  deriving DecidableEq, Repr

/-- The length of a region, in bytes (Table 1-1). -/
def Region.length : Region → Nat
  | .sync => 12
  | .headerWord0 => 4
  | .headerWord1 => 4
  | .headerWord2 => 4
  | .gapFiller => 12
  | .dataSync => 4
  | .dataField => 1024
  | .checkWord => 4
  | .trailingGap => 24

/-- The regions in the order in which they pass (R1, Table 1-1). -/
def sectorLayout : List Region :=
  [.sync, .headerWord0, .headerWord1, .headerWord2, .gapFiller, .dataSync, .dataField, .checkWord, .trailingGap]

/-- The number of bytes of a slot before a region. -/
def Region.start (r : Region) : Nat := ((sectorLayout.takeWhile (· != r)).map Region.length).sum

/-- The number of bytes of a slot up to a region's end. -/
def Region.stop (r : Region) : Nat := r.start + r.length

/-- Some bytes of a slot, each by its byte number in the slot. -/
def Region.fill (r : Region) (f : Nat → Byte) : List Byte := (List.range r.length).map fun k => f (r.start + k)

/-- A region of one recorded word, least significant byte first, or with nothing that can be recovered. -/
def Region.wordBytes (r : Region) (place : Nat) : Option Word → List Byte
  | some w => le32 w
  | none => r.fill (Config.unreadableByte place)

/-- A region's bytes as the slot at a place holds them (Table 1-1). -/
def Slot.regionBytes (place : Nat) (v : Slot) (r : Region) : List Byte :=
  match r with
  | .sync => if v.sync then (List.range r.length).map Config.syncPattern else r.fill (Config.unreadableByte place)
  | .headerWord0 => r.wordBytes place (v.header.map fun h => h.1)
  | .headerWord1 => r.wordBytes place (v.header.map fun h => h.2.1)
  | .headerWord2 => r.wordBytes place (v.header.map fun h => h.2.2)
  | .gapFiller => r.fill (if v.gap then Config.gapFiller else Config.unreadableByte place)
  | .dataSync => if v.gap then (List.range r.length).map Config.dataSyncPattern else r.fill (Config.unreadableByte place)
  | .dataField => bytesOfWords v.data
  | .checkWord => r.wordBytes place v.check
  | .trailingGap => r.fill (if v.trailing then Config.gapFiller else Config.unreadableByte place)

/-- The slot at a place as its bytes lie on the media, in the order in which they pass (R1, Table 1-1). -/
def slotImage (place : Nat) (v : Slot) : List Byte := sectorLayout.flatMap (v.regionBytes place)

/-- The header a read of the slot delivers: none without a sync field (R4). -/
def Slot.readHeader (v : Slot) : Option (Word × Word × Word) := if v.sync then v.header else none

/-! ### The slots of the units -/

/-- The place of a slot on the media of all eight units, as one number: spindle, cylinder, surface, slot. -/
def placeKey (p : Port) (cylinder surface slot : Nat) : Nat :=
  ((p.val * 65536 + cylinder) * 65536 + surface) * 65536 + slot

/-- What a slot that is not listed holds: nothing readable, its data words unknown (R1, R4). -/
def blankSlot (place : Nat) : Slot where
  sync := false
  header := none
  gap := false
  data := (List.range Config.sectorWords).map (Config.unwrittenWord place)
  check := none
  trailing := false

/-- The contents of a slot of the media. -/
def mediaRead (m : List (Nat × Slot)) (place : Nat) : Slot :=
  match m with
  | [] => blankSlot place
  | (k, v) :: rest => if k = place then v else mediaRead rest place

/-- The media list with a slot's entry replaced or put in its place. -/
def mediaInsert (m : List (Nat × Slot)) (place : Nat) (v : Slot) : List (Nat × Slot) :=
  match m with
  | [] => [(place, v)]
  | (k, old) :: rest =>
    if place < k then (place, v) :: (k, old) :: rest
    else if place = k then (place, v) :: rest
    else (k, old) :: mediaInsert rest place v

/-- The media with a slot's contents replaced, in its one form: a slot left as an unlisted one reads is not listed. -/
def mediaWrite (m : List (Nat × Slot)) (place : Nat) (v : Slot) : List (Nat × Slot) :=
  if v = blankSlot place then m.filter (fun e => e.1 != place) else mediaInsert m place v

/-- Places strictly rising. -/
def mediaRising : List (Nat × Slot) → Bool
  | (j, _) :: (k, w) :: rest => decide (j < k) && mediaRising ((k, w) :: rest)
  | _ => true

/-- The one form of the media list: places strictly rising, and no entry that an unlisted slot reads as. -/
def mediaWf (m : List (Nat × Slot)) : Bool := mediaRising m && m.all fun e => e.2 != blankSlot e.1

/-- A data write that runs to its end (R1, R10): sync field and header stand, and everything from the gap on is new. -/
def writtenSlot (old : Slot) (data : List Word) (w0 : Word) : Slot where
  sync := old.sync
  header := old.header
  gap := true
  data := data
  check := some (checkWord data w0)
  trailing := true

/-- The whole data words that lie before a byte number of the slot. -/
def wordsBefore (position : Nat) : Nat := (position - Region.dataField.start) / 4

/-- A data field with its leading words new and the rest as before, cut short at a byte number of the slot (R12). -/
def tornData (old data : List Word) (position : Nat) : List Word :=
  data.take (wordsBefore position) ++ old.drop (wordsBefore position)

/-- A data write cut short at a byte number of the slot: the three cases of R12. A gap that held its pattern holds it still when it
is rewritten in part. -/
def tornSlot (old : Slot) (data : List Word) (w0 : Word) (position : Nat) : Slot :=
  if position ≤ Region.dataSync.start then old
  else if position < Region.checkWord.stop then
    { old with
      gap := old.gap || decide (Region.dataSync.stop ≤ position)
      data := tornData old.data data position
      check := none }
  else { writtenSlot old data w0 with trailing := old.trailing || decide (Region.trailingGap.stop ≤ position) }

/-- The data words of a formatted sector (R11): the fill word, or zero without one. -/
def fillData (fill : Option Word) : List Word := List.replicate Config.sectorWords (fill.getD 0)

/-- A slot a FORMAT has written whole (R11). -/
def formattedSlot (a : Addr) (fill : Option Word) : Slot where
  sync := true
  header := some (formatHeader a)
  gap := true
  data := fillData fill
  check := some (checkWord (fillData fill) (headerWord0 a))
  trailing := true

/-- The slot in work of a FORMAT cut short at a byte number of the slot: the two ways of R13. Before header word 2 is complete the
header is lost; after it the new header stands and the data field reads with a failing check, wherever the gate fell. -/
def tornFormatSlot (old : Slot) (a : Addr) (fill : Option Word) (position : Nat) : Slot :=
  if position < Region.headerWord2.stop then
    { old with sync := old.sync || decide (Region.sync.stop ≤ position), header := none }
  else
    { sync := true
      header := some (formatHeader a)
      gap := old.gap || decide (Region.dataSync.stop ≤ position)
      data := tornData old.data (fillData fill) position
      check := none
      trailing := old.trailing }

end Sys2Proof.Machine
end

