-- ==== Sys2Proof/Machine/Flags.lean ====
section
/-! DEFINITION. The bit sets of the messages: SUBMIT flags (Table 5-3, R175), hold reasons, DONE presence bits and event sets
(Tables 9-4 and 9-5). -/

namespace Sys2Proof.Machine

/-- A bit set as a byte, bit 0 first. -/
def bitsByte (bits : List Bool) : Byte :=
  bits.foldr (fun b acc => (acc <<< 1) ||| flagByte b) 0

/-- The flags of SUBMIT's flags byte; none when bit 5, 6 or 7 is set (R175). -/
def parseFlags (b : Byte) : Option Flags :=
  if b.extractLsb' 5 3 = 0#3 then
    some ⟨b.getLsbD 0, b.getLsbD 1, b.getLsbD 2, b.getLsbD 3, b.getLsbD 4⟩
  else none

/-- The flags byte of a record. DEDUCED: STATUS sends the flags as SUBMIT carries them. -/
def flagsByte (f : Flags) : Byte := bitsByte [f.barrier, f.urgent, f.tolerate, f.verifyAfter, f.noRetry]

/-- Table 5-3: the flags a kind allows. -/
def flagsAllowed (k : Kind) (f : Flags) : Bool :=
  (!f.tolerate || k == .read || k == .verify) && (!f.verifyAfter || k == .write)

/-- The hold reasons byte (Table 9-5). -/
def holdsByte (h : Holds) : Byte := bitsByte [h.spindle, h.barrier, h.noData, h.noBuffer]

/-- Whether a request has a hold reason. -/
def Holds.held (h : Holds) : Bool := h.spindle || h.barrier || h.noData || h.noBuffer

/-- The event set byte (Table 9-4). -/
def eventSetByte (e : EventSet) : Byte :=
  bitsByte [e.stateChange, e.wprChange, e.positionLost, e.armLost, e.attention]

/-- The union of two event sets (R188). -/
def EventSet.join (a b : EventSet) : EventSet where
  stateChange := a.stateChange || b.stateChange
  wprChange := a.wprChange || b.wprChange
  positionLost := a.positionLost || b.positionLost
  armLost := a.armLost || b.armLost
  attention := a.attention || b.attention

/-- The event set of one STATE_CHANGE. -/
def eventStateChange : EventSet := ⟨true, false, false, false, false⟩
/-- The event set of one WPR_CHANGE. -/
def eventWprChange : EventSet := ⟨false, true, false, false, false⟩
/-- The event set of one POSITION_LOST. -/
def eventPositionLost : EventSet := ⟨false, false, true, false, false⟩
/-- The event set of one ARM_LOST. -/
def eventArmLost : EventSet := ⟨false, false, false, true, false⟩
/-- The event set of one ATTENTION. -/
def eventAttention : EventSet := ⟨false, false, false, false, true⟩

/-- The presence byte of a DONE (Table 9-4). -/
def presenceByte (d : DoneRecord) : Byte := bitsByte [d.firstSuspect.isSome, d.cause.isSome, d.failing.isSome]

end Sys2Proof.Machine
end

