-- ==== Sys2Proof/Machine/Geometry.lean ====
section
/-! DEFINITION. Addresses, geometries and runs (R7 to R9), and rotational distance (R54). -/

namespace Sys2Proof.Machine

/-- CONFIGURE's range check (R18): C 1-4096, H 1-16, S 4-64. -/
def Geometry.legal (g : Geometry) : Bool :=
  1 ≤ g.cylinders && g.cylinders ≤ 4096 && 1 ≤ g.surfaces && g.surfaces ≤ 16 && 4 ≤ g.sectors && g.sectors ≤ 64

/-- Sectors of the spindle (Table 1-3). -/
def Geometry.total (g : Geometry) : Nat := g.cylinders * g.surfaces * g.sectors

/-- Whether an address lies within the geometry (R7). -/
def Geometry.contains (g : Geometry) (a : Addr) : Bool :=
  a.cylinder < g.cylinders && a.surface < g.surfaces && a.sector < g.sectors

/-- The linear number of an address (R8). -/
def Geometry.linear (g : Geometry) (a : Addr) : Nat := (a.cylinder * g.surfaces + a.surface) * g.sectors + a.sector

/-- The successor of an address (R8). -/
def Geometry.successor (g : Geometry) (a : Addr) : Addr :=
  if a.sector + 1 < g.sectors then { a with sector := a.sector + 1 }
  else if a.surface + 1 < g.surfaces then ⟨a.cylinder, a.surface + 1, 0⟩
  else ⟨a.cylinder + 1, 0, 0⟩

/-- The address at an index of the run that begins at an address (R9): that many successors on. -/
def Geometry.addressAt (g : Geometry) (start : Addr) : Nat → Addr
  | 0 => start
  | n + 1 => g.successor (g.addressAt start n)

/-- Whether the run of a request fits (R9, R78). -/
def Geometry.fits (g : Geometry) (k : Kind) (start : Addr) (count : Nat) : Bool :=
  match k with
  | .format => g.contains start && start.sector == 0
  | _ => g.contains start && g.linear start + count - 1 ≤ g.total - 1

/-- Rotational distance (R54): the slots that begin to pass before slot `t` begins, with the tracker at `c`. -/
def rotationalDistance (sectors c t : Nat) : Nat := (((t : Int) - (c : Int) - 1) % (sectors : Int)).toNat

end Sys2Proof.Machine
end

