-- ==== Sys2Proof/Machine/Operands.lean ====
section
/-! DEFINITION. The fields of host messages and the codes of Table 9-5: what a byte or a field names, and how a record's values
are sent (R175). -/

namespace Sys2Proof.Machine

/-- A spindle number of a message; none outside 0 to 7. -/
def portOf (b : Byte) : Option Port := if h : b.toNat < 8 then some ⟨b.toNat, h⟩ else none

/-- A tag of a message; none outside 0 to 31. -/
def tagOf (b : Byte) : Option Tag := if h : b.toNat < 32 then some ⟨b.toNat, h⟩ else none

/-- A request kind of a SUBMIT (Table 9-5). -/
def kindOf (b : Byte) : Option Kind :=
  match b.toNat with
  | 1 => some .read
  | 2 => some .write
  | 3 => some .verify
  | 4 => some .format
  | _ => none

/-- The code of a request kind (Table 9-5). -/
def kindByte : Kind → Byte
  | .read => 1
  | .write => 2
  | .verify => 3
  | .format => 4

/-- A spindle number or tag as a byte. -/
def finByte {n : Nat} (i : Fin n) : Byte := byteOf i.val

/-- A spindle number or tag as a byte, all ones when absent (R175). -/
def optFinByte {n : Nat} : Option (Fin n) → Byte
  | none => 0xFF
  | some i => finByte i

/-- The code of a reply (Table 9-5). -/
def codeByte : Code → Byte
  | .ok => 0
  | .badField => 1
  | .unknownKind => 2
  | .tagInUse => 3
  | .noSuchTag => 4
  | .noSpindle => 5
  | .spindleAbsent => 6
  | .spindleFaulted => 7
  | .range => 8
  | .writeProtected => 9
  | .window => 10
  | .noBuffer => 11
  | .busy => 12
  | .wrongState => 13
  | .limitInUse => 14
  | .cancelling => 15

/-- The code of an outcome (Table 9-5). -/
def outcomeByte : Outcome → Byte
  | .complete => 0
  | .completeSuspect => 1
  | .cancelled => 2
  | .dataCheck => 3
  | .sectorNotFound => 4
  | .positionError => 5
  | .verifyMismatch => 6
  | .writeProtected => 7
  | .spindleFault => 8
  | .spindleAbsent => 9

/-- The code of a spindle state (Table 9-5). -/
def stateByte : SpindleState → Byte
  | .unconfigured => 0
  | .absent => 1
  | .parked => 2
  | .spinWait => 3
  | .spinningUp => 4
  | .ready => 5
  | .spinningDown => 6
  | .faulted => 7

/-- The code of a fault cause, 0 when absent (Table 9-5). -/
def causeByte : Option Cause → Byte
  | none => 0
  | some .unitFault => 1
  | some .spinupTimeout => 2
  | some .spindownTimeout => 3
  | some .speedLost => 4
  | some .tracking => 5
  | some .restoreFailed => 6

/-- The code of the channel state (Table 9-5). -/
def phaseByte : Phase → Byte
  | .search => 1
  | .readField _ _ => 2
  | .writeField _ _ _ => 2
  | .verifyField _ _ => 2
  | .pass _ => 3
  | .formatWait => 4
  | .formatWrite _ => 5

/-- The code of an arm state (Table 9-5). -/
def armByte : Arm → Byte
  | .unknown => 0
  | .restoring _ => 1
  | .settled _ => 2
  | .seeking _ _ _ => 3

/-- The code of a request state (Table 9-5). -/
def statusByte : Status → Byte
  | .held => 0
  | .queued => 1
  | .active => 2

/-- An arm's cylinder (Table 4-1): absent in UNKNOWN, 0 in RESTORING. -/
def Arm.cylinder : Arm → Option Nat
  | .unknown => none
  | .restoring _ => some 0
  | .settled c => some c
  | .seeking c _ _ => some c

/-- An arm's seek owner (Table 4-1). -/
def Arm.owner : Arm → Option Tag
  | .seeking _ o _ => o
  | _ => none

/-- An arm's motion timer (Table 4-2): running exactly while a motion is in flight. -/
def Arm.timer : Arm → Option Nat
  | .restoring d => some d
  | .seeking _ _ d => some d
  | _ => none

/-- Whether the arm is SETTLED. -/
def Arm.isSettled : Arm → Bool
  | .settled _ => true
  | _ => false

/-- An address as a record sends it: cylinder, surface, sector (Table 9-4). -/
def addrBytes (a : Addr) : List Byte := le16Nat a.cylinder ++ [byteOf a.surface, byteOf a.sector]

/-- The start address a SUBMIT carries (Table 9-3). -/
def submitStart (m : SubmitFields) : Addr := ⟨m.cylinder.toNat, m.surface.toNat, m.sector.toNat⟩

/-- A SUBMIT whose fields are legal on their face (R76), with what they name. -/
structure SubmitRequest where
  tag : Tag
  kind : Kind
  spindle : Port
  flags : Flags
  start : Addr
  count : Nat
  fill : Option Word
  deriving DecidableEq, Repr

/-- R76's count check: 1 to 256, or 0 for FORMAT. -/
def countLegal (k : Kind) (n : Nat) : Bool :=
  match k with
  | .format => n == 0
  | _ => 1 ≤ n && n ≤ 256

/-- R76: the request a SUBMIT names, or none when a field is illegal on its face. -/
def parseSubmit (m : SubmitFields) : Option SubmitRequest :=
  match tagOf m.tag, kindOf m.kind, portOf m.spindle, parseFlags m.flags with
  | some tag, some kind, some spindle, some flags =>
    if countLegal kind m.count.toNat && flagsAllowed kind flags && (m.fill.isNone || kind == .format) then
      some ⟨tag, kind, spindle, flags, submitStart m, m.count.toNat, m.fill⟩
    else none
  | _, _, _, _ => none

/-- The thirteen parameter ids (Table 9-9). -/
inductive ParamId where
  | spinLimit | surgeLimit | spinupTimeout | spindownTimeout | idleTimeout | seekTimeout | revLimit | retryLimit | burstLimit
  | ageLimit | stageDepth | readReserve | trackFaultLimit
  deriving DecidableEq, Repr

/-- A parameter's id (Table 9-9). -/
def paramOf (b : Byte) : Option ParamId :=
  match b.toNat with
  | 1 => some .spinLimit
  | 2 => some .surgeLimit
  | 3 => some .spinupTimeout
  | 4 => some .spindownTimeout
  | 5 => some .idleTimeout
  | 6 => some .seekTimeout
  | 7 => some .revLimit
  | 8 => some .retryLimit
  | 9 => some .burstLimit
  | 10 => some .ageLimit
  | 11 => some .stageDepth
  | 12 => some .readReserve
  | 13 => some .trackFaultLimit
  | _ => none

/-- A parameter's value in force (R177). -/
def Params.get (p : Params) : ParamId → Nat
  | .spinLimit => p.spinLimit
  | .surgeLimit => p.surgeLimit
  | .spinupTimeout => p.spinupTimeout
  | .spindownTimeout => p.spindownTimeout
  | .idleTimeout => p.idleTimeout
  | .seekTimeout => p.seekTimeout
  | .revLimit => p.revLimit
  | .retryLimit => p.retryLimit
  | .burstLimit => p.burstLimit
  | .ageLimit => p.ageLimit
  | .stageDepth => p.stageDepth
  | .readReserve => p.readReserve
  | .trackFaultLimit => p.trackFaultLimit

/-- The parameter set with one value stored (R178). -/
def Params.put (p : Params) (v : Nat) : ParamId → Params
  | .spinLimit => { p with spinLimit := v }
  | .surgeLimit => { p with surgeLimit := v }
  | .spinupTimeout => { p with spinupTimeout := v }
  | .spindownTimeout => { p with spindownTimeout := v }
  | .idleTimeout => { p with idleTimeout := v }
  | .seekTimeout => { p with seekTimeout := v }
  | .revLimit => { p with revLimit := v }
  | .retryLimit => { p with retryLimit := v }
  | .burstLimit => { p with burstLimit := v }
  | .ageLimit => { p with ageLimit := v }
  | .stageDepth => { p with stageDepth := v }
  | .readReserve => { p with readReserve := v }
  | .trackFaultLimit => { p with trackFaultLimit := v }

/-- Whether a value lies in a parameter's range (Table 9-9, R178). -/
def paramInRange (v : Nat) : ParamId → Bool
  | .spinLimit => 1 ≤ v && v ≤ 8
  | .surgeLimit => 1 ≤ v && v ≤ 4
  | .spinupTimeout => 5 ≤ v && v ≤ 60
  | .spindownTimeout => 5 ≤ v && v ≤ 60
  | .idleTimeout => v == 0 || (10 ≤ v && v ≤ 3600)
  | .seekTimeout => 50 ≤ v && v ≤ 2000
  | .revLimit => 1 ≤ v && v ≤ 7
  | .retryLimit => v ≤ 7
  | .burstLimit => 1 ≤ v && v ≤ 256
  | .ageLimit => 100 ≤ v && v ≤ 60000
  | .stageDepth => 1 ≤ v && v ≤ 16
  | .readReserve => v ≤ 8
  | .trackFaultLimit => 1 ≤ v && v ≤ 15

/-- A timeout in seconds, as µs of the time base. -/
def secondsUs (n : Nat) : Nat := n * 1000000

/-- A timeout in ms, as µs of the time base. -/
def millisUs (n : Nat) : Nat := n * 1000

end Sys2Proof.Machine
end

