-- ==== Sys2Proof/Machine/Ops.lean ====
section
/-! DEFINITION. The named operations over the state that every command is built from: spindle ports, request records and their
hold reasons, buffers, event posts, timers, and the outputs. -/

namespace Sys2Proof.Machine

/-! ### Named updates -/

/-- The state with its table replaced. -/
def State.setTable (s : State) (table : List Request) : State := { s with table := table }

/-- The state with its Stream replaced. -/
def State.setStream (s : State) (stream : List StreamEntry) : State := { s with stream := stream }

/-- The state with its wait list replaced. -/
def State.setWaitList (s : State) (waitList : List Port) : State := { s with waitList := waitList }

/-- The state with its activity order replaced. -/
def State.setActivity (s : State) (activity : List Port) : State := { s with activity := activity }

/-- The state with its channel record replaced. -/
def State.setChan (s : State) (chan : Option Engagement) : State := { s with chan := chan }

/-- The state with its free count replaced. -/
def State.setFree (s : State) (free : Nat) : State := { s with free := free }

/-- The state with the frame in transmission replaced. -/
def State.setLine (s : State) (line : Option OutFrame) : State := { s with line := line }

/-- The state with its reply queue replaced. -/
def State.setReplies (s : State) (replies : List Reply) : State := { s with replies := replies }

/-- The state with its Event Queue replaced. -/
def State.setEvents (s : State) (events : List EventRecord) : State := { s with events := events }

/-- The state with its notice record replaced. -/
def State.setNotice (s : State) (notice : Notice) : State := { s with notice := notice }

/-! ### Spindle ports -/

/-- All eight ports, in ascending order. -/
def allPorts : List Port := [0, 1, 2, 3, 4, 5, 6, 7]

/-- The records of one spindle port. -/
def State.spindle (s : State) (p : Port) : Spindle := s.spindles[p]

/-- The state with one spindle port's records replaced. -/
def State.setSpindle (s : State) (p : Port) (r : Spindle) : State := { s with spindles := s.spindles.set p r }

/-- The state with one spindle port's records changed. -/
def State.modSpindle (s : State) (p : Port) (f : Spindle → Spindle) : State := s.setSpindle p (f (s.spindle p))

/-- The spinning states (R24): those counted in the spinning count. -/
def SpindleState.spinning : SpindleState → Bool
  | .spinningUp => true
  | .ready => true
  | .spinningDown => true
  | _ => false

/-- Whether a spindle is configured (R14): it takes events from its lines. -/
def Spindle.configured (r : Spindle) : Bool := r.state != .unconfigured

/-- S of the spindle's stored geometry (R44). -/
def Spindle.sectors (r : Spindle) : Nat := (r.geometry.map (·.sectors)).getD 0

/-- The spinning count (R24). -/
def State.spinningCount (s : State) : Nat := (allPorts.filter fun p => (s.spindle p).state.spinning).length

/-- The rising count (R24). -/
def State.risingCount (s : State) : Nat := (allPorts.filter fun p => (s.spindle p).state == .spinningUp).length

/-- The number of spindles in SPINNING_DOWN (R35). -/
def State.stoppingCount (s : State) : Nat := (allPorts.filter fun p => (s.spindle p).state == .spinningDown).length

/-! ### Outputs -/

/-- SPEN of a port (R15, R183). -/
def State.spen (s : State) (p : Port) : Bool :=
  !s.inReset && ((s.spindle p).state == .spinningUp || (s.spindle p).state == .ready)

/-- RTR (R168, R183). -/
def State.rtr (s : State) : Bool := !s.inReset && decide (s.inbound.length < Config.inboundRoom) && s.restart.isNone

/-- The port whose write gate is open, if one is (R123). -/
def State.writeGate (s : State) : Option Port :=
  match s.chan with
  | none => none
  | some e =>
    match e.phase with
    | .writeField _ _ _ => some e.spindle
    | .formatWrite true => some e.spindle
    | _ => none

/-! ### Requests -/

/-- The request in a tag's slot, if the slot is occupied (R72). -/
def State.request (s : State) (t : Tag) : Option Request := s.table.find? fun r => r.tag == t

/-- The state with the record of a tag changed. -/
def State.modRequest (s : State) (t : Tag) (f : Request → Request) : State :=
  { s with table := s.table.map fun r => if r.tag = t then f r else r }

/-- The requests of a spindle, oldest first (R75: the spindle's view). -/
def State.requestsOf (s : State) (p : Port) : List Request := s.table.filter fun r => r.spindle == p

/-- A spindle's request count (R72). -/
def State.requestCount (s : State) (p : Port) : Nat := (s.requestsOf p).length

/-- The free slot count (R72). -/
def State.freeSlots (s : State) : Nat := Config.slotCount - s.table.length

/-- The admission list (R75). -/
def State.admissionList (s : State) : List Tag := s.table.map (·.tag)

/-- R74: the budget a sector of the request starts with. -/
def freshBudget (retryLimit : Nat) (f : Flags) : Nat := if f.noRetry then 0 else retryLimit

/-- A retry spent (R74): the budget falls by 1, retries used rises by 1, held at 255. -/
def Request.spendRetry (r : Request) : Request :=
  { r with budget := r.budget - 1, retries := min 255 (r.retries + 1) }

/-! ### Hold reasons -/

/-- R84: a request that is not ACTIVE is QUEUED without hold reasons and HELD with one. -/
def Request.regrade (r : Request) : Request :=
  match r.status with
  | .active => r
  | _ => { r with status := if r.holds.held then .held else .queued }

/-- An evaluation of some of the hold reasons of a request that is not ACTIVE (R84, R85). -/
def Request.evaluate (r : Request) (f : Holds → Holds) : Request :=
  match r.status with
  | .active => r
  | _ => Request.regrade { r with holds := f r.holds }

/-- R83: whether the requests of a spindle carry SPINDLE. -/
def State.spindleHold (s : State) (p : Port) : Bool :=
  !((s.spindle p).state == .ready && (s.spindle p).tracker.tracked)

/-- R87: whether a request carries BARRIER behind these older requests. -/
def barrierHold (older : List Request) (r : Request) : Bool :=
  older.any fun q => q.spindle == r.spindle && (r.flags.barrier || q.flags.barrier)

/-- R83: whether a request carries NO_DATA. -/
def noDataHold (r : Request) : Bool := r.kind == .write && r.staged.isEmpty

/-- The requests older than the one of a tag (R75). -/
def State.olderThan (s : State) (t : Tag) : List Request := s.table.takeWhile fun r => r.tag != t

/-- R84: the evaluation of SPINDLE for every request of a spindle. -/
def State.evalSpindleHold (s : State) (p : Port) : State :=
  { s with
    table := s.table.map fun r =>
      if r.spindle = p then r.evaluate fun h => { h with spindle := s.spindleHold p } else r }

/-- BARRIER evaluated for the requests of a spindle, each against the ones before it. -/
def regradeBarriers (p : Port) (older : List Request) : List Request → List Request
  | [] => []
  | r :: rest =>
    (if r.spindle = p then r.evaluate fun h => { h with barrier := barrierHold older r } else r) ::
      regradeBarriers p (older ++ [r]) rest

/-- R84, R88: the evaluation of BARRIER for every request of a spindle. -/
def State.evalBarriers (s : State) (p : Port) : State := { s with table := regradeBarriers p [] s.table }

/-- R160: NO_BUFFER is removed from every request that carries it. -/
def State.liftNoBuffer (s : State) : State :=
  { s with
    table := s.table.map fun r => if r.holds.noBuffer then r.evaluate fun h => { h with noBuffer := false } else r }

/-! ### Buffers -/

/-- The return of some buffers to the free pool in one event (R160). -/
def State.returnBuffers (s : State) (n : Nat) : State :=
  if n = 0 then s else (s.setFree (s.free + n)).liftNoBuffer

/-- The buffers the phase of the channel holds in work (Table 7-1). -/
def Phase.buffers : Phase → Nat
  | .readField _ _ => 1
  | .writeField _ _ _ => 1
  | _ => 0

/-- The buffers the channel holds: in work and on the verify-pending list (Table 8-1). -/
def Engagement.buffers (e : Engagement) : Nat := e.phase.buffers + e.pending.length

/-- Whether a Stream entry holds a buffer (R174). -/
def StreamEntry.holdsBuffer : StreamEntry → Bool
  | .rdata _ _ _ _ => true
  | .done _ => false

/-- The buffers of the Stream's RDATA entries (Table 8-1). -/
def State.streamBuffers (s : State) : Nat := (s.stream.filter fun e => e.holdsBuffer).length

/-- The DONE entries of the Stream (R169). -/
def State.streamDones (s : State) : Nat := (s.stream.filter fun e => !e.holdsBuffer).length

/-! ### Events -/

/-- R187, R188: the post of an event for a spindle, as the spindle's state stands. A record of the spindle takes it in, and
otherwise a record joins the tail. -/
def postInto (p : Port) (kind : EventSet) (now : SpindleState) (cause : Option Cause) :
    List EventRecord → List EventRecord
  | [] => [⟨p, kind, now, cause, 1⟩]
  | r :: rest =>
    if r.spindle = p then ⟨p, r.set.join kind, now, cause, min 255 (r.count + 1)⟩ :: rest
    else r :: postInto p kind now cause rest

/-- The post of an event for a spindle (R186 to R188): the record carries the fault cause exactly when the state is FAULTED. -/
def State.post (s : State) (p : Port) (kind : EventSet) : State :=
  let r := s.spindle p
  { s with events := postInto p kind r.state (if r.state = .faulted then r.cause else none) s.events }

/-! ### Orders of spindles -/

/-- A list of spindles with one moved to, or joined at, its tail (R32). -/
def toTail (p : Port) (l : List Port) : List Port := l.filter (· != p) ++ [p]

/-- A spindle moves to the tail of the activity order (R32). -/
def State.touchActivity (s : State) (p : Port) : State := { s with activity := toTail p s.activity }

/-- The time base moved up to a moment (never back). -/
def State.clockTo (s : State) (t : Nat) : State := { s with now := max s.now t }

/-- R33: the start of the idle timer, when the spindle is READY, unpinned and without requests, and IDLE_TIMEOUT is not 0. -/
def State.startIdle (s : State) (p : Port) : State :=
  if (s.spindle p).state = .ready ∧ (s.spindle p).pinned = false ∧ s.requestCount p = 0 ∧ s.params.idleTimeout ≠ 0 then
    s.modSpindle p fun r => { r with idleTimer := some (s.now + secondsUs s.params.idleTimeout) }
  else s

end Sys2Proof.Machine
end

