-- ==== Sys2Proof/Machine/Table.lean ====
section
/-! DEFINITION. Completion and what it needs of the Channel and of Arm Control: the channel's record cleared with its buffers
returned (R145, R147), sectors counted (R133), seek owners cleared (R66), and the DONE (R96 to R99). -/

namespace Sys2Proof.Machine

/-! ### The channel's record -/

/-- The channel returns to IDLE (R122) and every buffer it holds, in work or pending, returns to the free pool (R145). -/
def State.closeChannel (s : State) : State :=
  match s.chan with
  | none => s
  | some e => (s.setChan none).returnBuffers e.buffers

/-- The place on the media of a slot of the track the channel is on. -/
def Engagement.place (e : Engagement) (slot : Nat) : Nat := placeKey e.spindle e.target.cylinder e.surface slot

/-- The fill word of the engaged request (R80). -/
def State.engagedFill (s : State) (e : Engagement) : Option Word := (s.request e.tag).bind (·.fill)

/-- R147, R150: a write or format cut short leaves a torn sector (R12, R13). Where the gate fell is a free value, counted in bytes from
where it opened: after the header for a data write (R130), at the slot's start for a FORMAT (R142). -/
def State.tearSector (s : State) : State :=
  match s.chan with
  | none => s
  | some e =>
    match e.phase with
    | .writeField w0 slot b =>
      { s with
        media := mediaWrite s.media (e.place slot)
          (tornSlot (mediaRead s.media (e.place slot)) (wordsOfBytes b.payload) w0
            (Region.gapFiller.start + Config.gateFall s.freeUses))
        freeUses := s.freeUses + 1 }
    | .formatWrite true =>
      { s with
        media := mediaWrite s.media (e.place e.index)
          (tornFormatSlot (mediaRead s.media (e.place e.index)) e.target (s.engagedFill e)
            (Region.sync.start + Config.gateFall s.freeUses))
        freeUses := s.freeUses + 1 }
    | _ => s

/-! ### Counting and the abort -/

/-- The address after an address (R8), in a spindle's geometry. -/
def State.nextAddress (s : State) (p : Port) (a : Addr) : Addr :=
  match (s.spindle p).geometry with
  | none => a
  | some g => g.successor a

/-- R133: a sector is counted as done. -/
def State.countSector (s : State) (t : Tag) : State :=
  s.modRequest t fun r =>
    { r with
      done := r.done + 1
      next := s.nextAddress r.spindle r.next
      budget := freshBudget s.params.retryLimit r.flags }

/-- R13, R133: a format slot whose trailing gap has passed and whose mark has not come is written whole, and is counted, unless it is the
run's last: only the Channel's own completions report every sector done (R97). DEDUCED (assumption 38): R147 leaves uncounted the slot
being written, and none is being written then. -/
def State.countWholeSlot (s : State) : State :=
  match s.chan with
  | none => s
  | some e =>
    match e.phase with
    | .formatWrite false => if (s.request e.tag).any (fun r => r.done + 1 < r.count) then s.countSector e.tag else s
    | _ => s

/-- R147: the abort of an engagement on a spindle that faults or loses presence. Other spindles' engagements stand. -/
def State.abortChannel (s : State) (p : Port) : State :=
  match s.chan with
  | none => s
  | some e => if e.spindle = p then s.tearSector.countWholeSlot.closeChannel else s

/-! ### Seek owners -/

/-- An arm whose seek, if it is this request's, goes on without an owner (R66). -/
def Arm.withoutOwner (t : Tag) : Arm → Arm
  | .seeking c o d => .seeking c (if o = some t then none else o) d
  | a => a

/-- R66: Arm Control clears the seek owner of a request that leaves the table. -/
def State.clearOwner (s : State) (p : Port) (t : Tag) : State :=
  s.modSpindle p fun r => { r with arm := r.arm.withoutOwner t }

/-! ### Completion -/

/-- Table 5-6: the outcomes that report a failing address. -/
def Outcome.failing : Outcome → Bool
  | .dataCheck => true
  | .sectorNotFound => true
  | .positionError => true
  | .verifyMismatch => true
  | .writeProtected => true
  | _ => false

/-- The DONE record built from a request record as it stands (R96 step 1, R97, R98): the failing address is the next address. -/
def doneRecord (r : Request) (o : Outcome) (cause : Option Cause) : DoneRecord where
  tag := r.tag
  outcome := o
  done := r.done
  next := r.next
  retries := r.retries
  suspects := r.suspects
  firstSuspect := if r.suspects = 0 then none else r.firstSuspect
  cause := cause
  failing := if o.failing then some r.next else none

/-- R96 steps 4 and 5: the channel's part when the request is the engaged one. -/
def State.disengage (s : State) (t : Tag) : State :=
  if s.chan.any (fun e => e.tag == t) then s.closeChannel else s

/-- R96: the completion of the request in a tag's slot. A free slot is completed by nothing (R95). -/
def State.complete (s : State) (t : Tag) (o : Outcome) (cause : Option Cause) : State :=
  match s.request t with
  | none => s
  | some r =>
    let s1 := s.setStream (s.stream ++ [StreamEntry.done (doneRecord r o cause)])
    let s2 := s1.returnBuffers r.staged.length
    let s3 := (s2.disengage t).clearOwner r.spindle t
    let s4 := s3.setTable (s3.table.filter fun q => q.tag != t)
    ((s4.evalBarriers r.spindle).touchActivity r.spindle).startIdle r.spindle

/-- R99: the order in which one event completes a spindle's requests: the ACTIVE request first, the others as admitted. -/
def State.completionOrder (s : State) (p : Port) : List Tag :=
  ((s.requestsOf p).filter fun r => r.status == .active).map (·.tag) ++
    ((s.requestsOf p).filter fun r => r.status != .active).map (·.tag)

/-- R99: every request of a spindle completes, one after another. -/
def State.completeAll (s : State) (p : Port) (o : Outcome) (cause : Option Cause) : State :=
  (s.completionOrder p).foldl (fun u t => u.complete t o cause) s

end Sys2Proof.Machine
end

