-- ==== Sys2Proof/Machine/Spin.lean ====
section
/-! DEFINITION. The Spindle Manager's transitions: every change of a spindle's state (R41) with what leaving a state does (R28 to
R31, R53, R69), the wait list, starts and evictions (R24 to R26, R35), faults and loss of presence (R39, R40), and Arm Control's
restore (R59). -/

namespace Sys2Proof.Machine

/-- A spindle's records in a new state, with what leaving the old one does: the timers of SPINNING_UP and SPINNING_DOWN stop
(R28, R31); leaving READY stops the idle timer and gives up the arm (R29, R69); leaving the spinning states clears the tracker
(R53). -/
def Spindle.enter (r : Spindle) (st : SpindleState) : Spindle :=
  { r with
    state := st
    spinUpTimer := if st = .spinningUp then r.spinUpTimer else none
    spinDownTimer := if st = .spinningDown then r.spinDownTimer else none
    idleTimer := if r.state = .ready ∧ st ≠ .ready then none else r.idleTimer
    arm := if r.state = .ready ∧ st ≠ .ready then .unknown else r.arm
    tracker := if r.state.spinning ∧ ¬ st.spinning then .cleared else r.tracker }

/-- R41: a change of a spindle's state. A spindle that leaves SPIN_WAIT leaves the wait list (R25); the Request Table evaluates
SPINDLE; a STATE_CHANGE is posted. -/
def State.enterState (s : State) (p : Port) (st : SpindleState) : State :=
  let s1 := if (s.spindle p).state = .spinWait ∧ st ≠ .spinWait then s.setWaitList (s.waitList.filter (· != p)) else s
  let s2 := s1.modSpindle p fun r => r.enter st
  (s2.evalSpindleHold p).post p eventStateChange

/-- R25: a spindle joins the tail of the wait list and goes to SPIN_WAIT. -/
def State.joinWait (s : State) (p : Port) : State :=
  (s.setWaitList (s.waitList ++ [p])).enterState p .spinWait

/-- R59: Arm Control issues a restore, on a READY spindle alone. -/
def State.issueRestore (s : State) (p : Port) : State :=
  if (s.spindle p).state = .ready then
    s.modSpindle p fun r =>
      { r with
        arm := .restoring (s.now + millisUs s.params.seekTimeout)
        orders := { r.orders with restoreStrobes := r.orders.restoreStrobes + 1 } }
  else s

/-- R62, R58: Arm Control issues a seek. -/
def State.issueSeek (s : State) (p : Port) (target : Nat) (owner : Tag) : State :=
  s.modSpindle p fun r =>
    { r with
      arm := .seeking target (some owner) (s.now + millisUs s.params.seekTimeout)
      orders := { r.orders with cylinderLines := target, seekStrobes := r.orders.seekStrobes + 1 } }

/-! ### Spinning down -/

/-- R31: a spindle in SPINNING_DOWN found with SPUN deasserted reaches PARKED, and rejoins the wait list if respin is set. -/
def State.endSpinDown (s : State) (p : Port) : State :=
  let s1 := s.enterState p .parked
  if (s.spindle p).respin then (s1.modSpindle p fun r => { r with respin := false }).joinWait p else s1

/-- R30: a spindle enters SPINNING_DOWN; with SPUN already deasserted the spin-down ends in the same event. -/
def State.enterSpinningDown (s : State) (p : Port) : State :=
  let s1 := (s.enterState p .spinningDown).modSpindle p fun r =>
    { r with spinDownTimer := some (s.now + secondsUs s.params.spindownTimeout) }
  if (s.spindle p).lines.spun then s1 else s1.endSpinDown p

/-! ### Faults and presence -/

/-- R39: a spindle enters FAULTED. The Channel aborts before the spindle's requests complete (R147). -/
def State.enterFaulted (s : State) (p : Port) (c : Cause) : State :=
  let s1 := s.modSpindle p fun r => { r with cause := some c, pinned := false, respin := false, idleTimer := none }
  ((s1.enterState p .faulted).abortChannel p).completeAll p .spindleFault (some c)

/-- R40: a spindle enters ABSENT, keeping its geometry. -/
def State.enterAbsent (s : State) (p : Port) : State :=
  let s1 := s.modSpindle p fun r => { r with cause := none, pinned := false, respin := false, idleTimer := none }
  ((s1.enterState p .absent).abortChannel p).completeAll p .spindleAbsent none

/-! ### The spin budget -/

/-- R24, R26: the start condition, with a spindle waiting. -/
def State.canStart (s : State) : Bool :=
  !s.waitList.isEmpty && decide (s.spinningCount < s.params.spinLimit) && decide (s.risingCount < s.params.surgeLimit)

/-- R26: the head of the wait list is started. -/
def State.startHead (s : State) : State :=
  match s.waitList with
  | [] => s
  | p :: rest =>
    ((s.setWaitList rest).enterState p .spinningUp).modSpindle p fun r =>
      { r with spinUpTimer := some (s.now + secondsUs s.params.spinupTimeout) }

/-- R35: whether a spindle is eligible for eviction. -/
def State.evictable (s : State) (p : Port) : Bool :=
  (s.spindle p).state == .ready && !(s.spindle p).pinned && s.requestCount p == 0 && (s.spindle p).arm.timer.isNone

/-- R35: the spindle to evict, if the eviction condition holds and one is eligible: the one nearest the head of the activity
order. -/
def State.evictChoice (s : State) : Option Port :=
  if !s.waitList.isEmpty && s.spinningCount == s.params.spinLimit && decide (s.stoppingCount < s.waitList.length) then
    s.activity.find? s.evictable
  else none

/-- R26, R35: starts and evictions until neither condition acts, for as many rounds as can act. -/
def State.budgetRounds : Nat → State → State
  | 0, s => s
  | n + 1, s =>
    if s.canStart then State.budgetRounds n s.startHead
    else
      match s.evictChoice with
      | some p => State.budgetRounds n (s.enterSpinningDown p)
      | none => s

/-- R26, R35: the Spindle Manager's evaluations. Each eviction takes a spindle out of READY and puts at most one on the wait
list, so no more rounds than this can act. -/
def State.evalBudget (s : State) : State := State.budgetRounds (s.waitList.length + 17) s

/-! ### Demand -/

/-- R23: the demand of a newly admitted request. -/
def State.registerDemand (s : State) (p : Port) : State :=
  match (s.spindle p).state with
  | .parked => s.joinWait p
  | .ready => s.modSpindle p fun r => { r with idleTimer := none }
  | .spinningDown => s.modSpindle p fun r => { r with respin := true }
  | _ => s

/-- PARKED or ABSENT, as PRES stands (R18, R22). -/
def Spindle.restState (r : Spindle) : SpindleState := if r.lines.pres then .parked else .absent

end Sys2Proof.Machine
end

