-- ==== Sys2Proof/Machine/Schedule.lean ====
section
/-! DEFINITION. The Scheduler: seek choices (R108 to R112), the channel arbiter (R113 to R117) and the engagement (R124). -/

namespace Sys2Proof.Machine

/-- The QUEUED requests of a spindle, oldest first (R105). -/
def State.queuedOf (s : State) (p : Port) : List Request :=
  s.table.filter fun r => r.spindle == p && r.status == .queued

/-- Whether a request of a spindle is ACTIVE (R108). -/
def State.hasActive (s : State) (p : Port) : Bool := s.table.any fun r => r.spindle == p && r.status == .active

/-- The difference of two cylinders (R111). -/
def cylinderDistance (a b : Nat) : Nat := (a - b) + (b - a)

/-- The first element of least measure (R111, R115: ties go to the earlier one). -/
def firstLeast (f : Request → Nat) : List Request → Option Request
  | [] => none
  | r :: rest =>
    match firstLeast f rest with
    | none => some r
    | some q => if f q < f r then some q else some r

/-- R109 to R111: the request whose cylinder an arm settled at `a` seeks for, or none for no seek. -/
def seekChoice (a : Nat) (queued : List Request) : Option Request :=
  match queued.find? (·.overdue) with
  | some r => if r.next.cylinder = a then none else some r
  | none =>
    if queued.any fun r => r.next.cylinder == a then none
    else
      match queued.find? (·.flags.urgent) with
      | some r => some r
      | none => firstLeast (fun r => cylinderDistance r.next.cylinder a) queued

/-- R108: the settled cylinder of an arm that is eligible for a seek choice. -/
def State.seekEligible (s : State) (p : Port) : Option Nat :=
  if (s.spindle p).state == .ready && (s.spindle p).tracker.tracked && !s.hasActive p then
    match (s.spindle p).arm with
    | .settled a => some a
    | _ => none
  else none

/-- The seek choice of one arm, issued (R112). -/
def State.chooseSeek (s : State) (p : Port) : State :=
  match s.seekEligible p with
  | none => s
  | some a =>
    match seekChoice a (s.queuedOf p) with
    | none => s
    | some r => s.issueSeek p r.next.cylinder r.tag

/-- R113: whether a request is a candidate for the channel. -/
def State.candidate (s : State) (r : Request) : Bool :=
  r.status == .queued && (s.spindle r.spindle).state == .ready && (s.spindle r.spindle).tracker.tracked &&
    (match (s.spindle r.spindle).arm with
      | .settled c => c == r.next.cylinder
      | _ => false)

/-- The target sector of a request (R105): sector 0 for FORMAT. -/
def Request.targetSector (r : Request) : Nat :=
  match r.kind with
  | .format => 0
  | _ => r.next.sector

/-- The rotational distance of a candidate (R116). -/
def State.distance (s : State) (r : Request) : Nat :=
  rotationalDistance (s.spindle r.spindle).sectors (s.spindle r.spindle).tracker.sector r.targetSector

/-- R115: least distance, then the lower-numbered spindle; the older of what remains comes first in the table. -/
def State.rank (s : State) (r : Request) : Nat := s.distance r * 8 + r.spindle.val

/-- R115: the winner of the channel choice, if there is a candidate. -/
def State.winner (s : State) : Option Request :=
  let cands := s.table.filter s.candidate
  match cands.find? (·.overdue) with
  | some r => some r
  | none =>
    let urgent := cands.filter (·.flags.urgent)
    if urgent.isEmpty then firstLeast s.rank cands else firstLeast s.rank urgent

/-- R124: the channel's record at the engagement of a request. -/
def engagementOf (r : Request) : Engagement where
  tag := r.tag
  spindle := r.spindle
  surface := r.next.surface
  index := r.done
  target := match r.kind with
    | .format => ⟨r.next.cylinder, r.next.surface, 0⟩
    | _ => r.next
  burst := 0
  searchIndex := 0
  searchMarks := 0
  slotMarked := false
  lastJudged := false
  pending := []
  deferred := none
  phase := match r.kind with
    | .format => .formatWait
    | _ => .search

/-- R117, R124: the channel is granted to a request. -/
def State.engage (s : State) (r : Request) : State :=
  (s.setChan (some (engagementOf r))).modRequest r.tag fun q => { q with status := .active }

/-- R114: the channel choice, when the Channel is IDLE and there is a candidate. -/
def State.chooseChannel (s : State) : State :=
  match s.chan with
  | some _ => s
  | none =>
    match s.winner with
    | none => s
    | some r => s.engage r

/-- R107: one re-evaluation, with the choice hold clear: the seek choices, then the channel choice. -/
def State.reevaluate (s : State) : State :=
  if s.choiceHold then s else (allPorts.foldl State.chooseSeek s).chooseChannel

end Sys2Proof.Machine
end

