-- ==== Sys2Proof/Machine/Event.lean ====
section
/-! DEFINITION. What ends every event: the RESTART clearing step when the Channel has stopped (R181, R182), the Spindle Manager's
evaluations (R26, R35), the Scheduler's one re-evaluation (R107), and the outbound arbiter (R172, R173). Whether each is due is
read off the state before the event and after it. -/

namespace Sys2Proof.Machine

/-! ### Replies and transmission -/

/-- R170: a REPLY joins the reply queue, with the free counts as they stand. -/
def State.pushReply (s : State) (kind seq : Byte) (code : Code) (further : List Byte) : State :=
  { s with replies := s.replies ++ [⟨kind, seq, code, s.free, s.freeSlots, further⟩] }

/-- A REPLY's body (Table 9-4). -/
def replyBody (r : Reply) : List Byte :=
  [r.kind, r.seq, codeByte r.code, byteOf r.freeBuffers, byteOf r.freeSlots] ++ r.further

/-- An RDATA's body (Table 9-4). -/
def rdataBody (b : Buffer) (p : Port) (a : Addr) (suspect : Bool) : List Byte :=
  [finByte b.tag, finByte p, byteOf b.index, flagByte suspect] ++ addrBytes a ++ b.payload

/-- A DONE's body (Table 9-4); an absent field is sent as zero (R175). -/
def doneBody (d : DoneRecord) : List Byte :=
  [finByte d.tag, outcomeByte d.outcome, presenceByte d] ++ le16Nat d.done ++ addrBytes d.next ++ [byteOf d.retries] ++
    le16Nat d.suspects ++ le16Nat (d.firstSuspect.getD 0) ++ [causeByte d.cause] ++ addrBytes (d.failing.getD ⟨0, 0, 0⟩)

/-- An EVENT's body (Table 9-4). -/
def eventBody (e : EventRecord) : List Byte :=
  [finByte e.spindle, eventSetByte e.set, stateByte e.stateNow, causeByte e.cause, byteOf e.count]

/-- A NOTICE's body (Table 9-4). -/
def noticeBody (n : Notice) : List Byte :=
  le16Nat n.checkFailures ++ le16Nat n.lengthErrors ++ le16Nat n.gapTimeouts ++ le16Nat n.overruns

/-- Whether the notice record is pending (R191). -/
def Notice.isPending (n : Notice) : Bool := n != Notice.zero

/-- R173, R171: a frame's transmission begins with the next part sequence. -/
def State.transmit (s : State) (kind : Byte) (body : List Byte) (holdsBuffer : Bool) : State :=
  { s with line := some ⟨kind, s.partSeq, body, holdsBuffer⟩, partSeq := s.partSeq + 1 }

/-- R172: the outbound arbiter begins the next frame from the first non-empty source: replies, notice, events, Stream. -/
def State.arbitrate (s : State) : State :=
  match s.replies with
  | r :: rest => (s.setReplies rest).transmit 0x81 (replyBody r) false
  | [] =>
    if s.notice.isPending then (s.setNotice .zero).transmit 0x85 (noticeBody s.notice) false
    else
      match s.events with
      | e :: rest => (s.setEvents rest).transmit 0x84 (eventBody e) false
      | [] =>
        match s.stream with
        | .rdata b p a x :: rest => (s.setStream rest).transmit 0x82 (rdataBody b p a x) true
        | .done d :: rest => (s.setStream rest).transmit 0x83 (doneBody d) false
        | [] => s

/-- R172: whether a source of the arbiter has become non-empty in an event. -/
def sourceFilled (before after : State) : Bool :=
  (before.replies.isEmpty && !after.replies.isEmpty) || (!before.notice.isPending && after.notice.isPending) ||
    (before.events.isEmpty && !after.events.isEmpty) || (before.stream.isEmpty && !after.stream.isEmpty)

/-- R172: the arbiter's choice at the end of an event, made when a transmission has ended or, with the line idle, a source has
become non-empty. -/
def serve (before after : State) : State :=
  if after.line.isNone && (before.line.isSome || sourceFilled before after) then after.arbitrate else after

/-! ### The RESTART clearing step -/

/-- R43: a spindle in SPIN_WAIT that is not pinned goes to PARKED. -/
def State.restartPark (s : State) (p : Port) : State :=
  if (s.spindle p).state = .spinWait ∧ (s.spindle p).pinned = false then s.enterState p .parked else s

/-- R43: an unpinned spindle's respin is cleared, and an unpinned READY spindle's idle timer starts afresh. -/
def State.restartSpindle (s : State) (p : Port) : State :=
  s.modSpindle p fun r =>
    if r.pinned then r
    else
      { r with
        respin := false
        idleTimer :=
          if r.state = .ready then
            if s.params.idleTimeout = 0 then none else some (s.now + secondsUs s.params.idleTimeout)
          else r.idleTimer }

/-- An arm whose seek, if it has one, goes on without an owner (R102). -/
def Arm.orphan : Arm → Arm
  | .seeking c _ d => .seeking c none d
  | a => a

/-- R102: the owner of a seek in flight is cleared. -/
def State.orphanSeek (s : State) (p : Port) : State := s.modSpindle p fun r => { r with arm := r.arm.orphan }

/-- The buffers on all staged lists (Table 8-1). -/
def State.stagedBuffers (s : State) : Nat := (s.table.map fun r => r.staged.length).sum

/-- R181 step 1: the Stream, the Event Queue and the notice record are emptied. -/
def State.flushOutbound (s : State) : State :=
  (((s.returnBuffers s.streamBuffers).setStream []).setEvents []).setNotice .zero

/-- R181 step 2, R102: every request is removed without a DONE. -/
def State.removeRequests (s : State) : State :=
  (allPorts.foldl State.orphanSeek (s.returnBuffers s.stagedBuffers)).setTable []

/-- R181 step 3, R43: the Spindle Manager's part, given the spindles to move to the tail of the activity order. -/
def State.restartSpindles (s : State) (moved : List Port) : State :=
  allPorts.foldl State.restartSpindle (moved.foldl State.touchActivity (allPorts.foldl State.restartPark s))

/-- R181 step 4, R149, R182: the choice hold, the stop request and the RESTART in progress are cleared. -/
def State.endRestart (s : State) : State := { s with choiceHold := false, stopRequest := false, restart := none }

/-- R32, R43: the spindles that an event with a clearing step moves in the activity order, ascending: those whose requests it
completed or the step removes. -/
def spindlesCleared (before after : State) : List Port :=
  allPorts.filter fun p => before.requestCount p != 0 || after.requestCount p != 0

/-- R181, R182: the clearing step and the RESTART's REPLY, given the spindles to move in the activity order. -/
def State.clearingStep (s : State) (moved : List Port) : State :=
  let s3 := s.flushOutbound.removeRequests.restartSpindles moved
  s3.endRestart.pushReply 0x08 (s.restart.getD 0) .ok []

/-! ### What an event makes due -/

/-- R149, R181: the Channel has stopped in this event for a RESTART that waits. -/
def stopDone (before after : State) : Bool :=
  (after.stopRequest && after.chan.isNone) && !(before.stopRequest && before.chan.isNone)

/-- R26, R35: a change of one spindle that starts the Spindle Manager's evaluations: a join of the wait list, the leaving of
SPINNING_UP or of the spinning states, PARKED reached, a motion ended with the arm SETTLED, a READY spindle become idle. -/
def spindleBudgetCause (before after : State) (p : Port) : Bool :=
  let b := before.spindle p
  let a := after.spindle p
  (after.waitList.contains p && !before.waitList.contains p) || (b.state == .spinningUp && a.state != .spinningUp) ||
    (b.state.spinning && !a.state.spinning) || (a.state == .parked && b.state != .parked) ||
    (b.arm.timer.isSome && a.arm.isSettled) ||
    (a.state == .ready && before.requestCount p != 0 && after.requestCount p == 0)

/-- R26, R35, R42: whether an event starts the Spindle Manager's evaluations. -/
def budgetDue (before after : State) : Bool :=
  allPorts.any (spindleBudgetCause before after) || before.params.spinLimit != after.params.spinLimit ||
    decide (before.params.surgeLimit < after.params.surgeLimit)

/-- The tags of the QUEUED requests. -/
def State.queuedTags (s : State) : List Tag := (s.table.filter fun r => r.status == .queued).map (·.tag)

/-- The tags of the overdue requests. -/
def State.overdueTags (s : State) : List Tag := (s.table.filter fun r => r.overdue).map (·.tag)

/-- R106: a change of one spindle that is reported to the Scheduler. -/
def spindleScheduleCause (before after : State) (p : Port) : Bool :=
  let b := before.spindle p
  let a := after.spindle p
  b.state != a.state || b.arm.isSettled != a.arm.isSettled || (b.tracker.tracked != a.tracker.tracked && a.state == .ready)

/-- R106: whether an event reports a cause of re-evaluation: a request admitted or become QUEUED, become HELD, become overdue,
completed or released; a change of a spindle, an arm or a tracked flag; the choice hold cleared. -/
def scheduleDue (before after : State) : Bool :=
  before.queuedTags != after.queuedTags || after.overdueTags.any (fun t => !before.overdueTags.contains t) ||
    before.admissionList.any (fun t => !after.admissionList.contains t) || (before.chan.isSome && after.chan.isNone) ||
    allPorts.any (spindleScheduleCause before after) || (before.choiceHold && !after.choiceHold)

/-- The end of an event before any reply: the clearing step, the Spindle Manager's evaluations and the Scheduler's
re-evaluation, each when it is due. -/
def finish (before after : State) : State :=
  let a1 := if stopDone before after then after.clearingStep (spindlesCleared before after) else after
  let a2 := if budgetDue before a1 then a1.evalBudget else a1
  if scheduleDue before a2 then a2.reevaluate else a2

/-- The end of an event that is not the handling of a message. -/
def settle (before after : State) : State := serve before (finish before after)

/-- An event of the block: nothing is taken while RSTn is asserted (R183). -/
def event (s : State) (effect : State → State) : Host.Outcome State Fault Refusal :=
  if s.inReset then .next s else .next (settle s (effect s))

end Sys2Proof.Machine
end

