-- ==== Sys2Proof/Machine/ArmEvents.lean ====
section
/-! DEFINITION. Seek done and seek check marks and the motion timer (R60, R61, R63 to R67). -/

namespace Sys2Proof.Machine

/-- The state with a spindle's arm record replaced. -/
def State.setArm (s : State) (p : Port) (a : Arm) : State := s.modSpindle p fun r => { r with arm := a }

/-- R60, R63: a seek done mark for the motion in flight. -/
def State.motionDone (s : State) (p : Port) : State :=
  match (s.spindle p).arm with
  | .restoring _ => s.setArm p (.settled 0)
  | .seeking c _ _ => s.setArm p (.settled c)
  | _ => s

/-- R65: a seek failure charged to the seek's owner, if it has one. -/
def State.chargeOwner (s : State) : Option Tag → State
  | none => s
  | some t =>
    match s.request t with
    | none => s
    | some r => if r.budget = 0 then s.complete t .positionError none else s.modRequest t Request.spendRetry

/-- R64: a failed seek. -/
def State.seekFailed (s : State) (p : Port) (owner : Option Tag) : State :=
  (((s.setArm p .unknown).post p eventArmLost).chargeOwner owner).issueRestore p

/-- R61, R64: the motion in flight fails. -/
def State.motionFailed (s : State) (p : Port) : State :=
  match (s.spindle p).arm with
  | .restoring _ => s.enterFaulted p .restoreFailed
  | .seeking _ owner _ => s.seekFailed p owner
  | _ => s

/-- R67: an event of the arm of a spindle, taken in READY alone. -/
def armEvent (p : Port) (effect : State → State) (s : State) : State :=
  if (s.spindle p).state = .ready then effect s else s

/-- SKD. -/
def execSkd (p : Port) (s : State) : Host.Outcome State Fault Refusal := event s (armEvent p fun u => u.motionDone p)

/-- SKE. -/
def execSke (p : Port) (s : State) : Host.Outcome State Fault Refusal := event s (armEvent p fun u => u.motionFailed p)

/-- R67: the motion timer at its deadline. -/
def State.motionTimeout (s : State) (p : Port) : State :=
  match (s.spindle p).arm.timer with
  | none => s
  | some deadline => (s.clockTo deadline).motionFailed p

/-- MOTION_TIMER_EXPIRY. -/
def execMotionTimerExpiry (p : Port) (s : State) : Host.Outcome State Fault Refusal :=
  event s (armEvent p fun u => u.motionTimeout p)

end Sys2Proof.Machine
end

