-- ==== Sys2Proof/Machine/Channel.lean ====
section
/-! DEFINITION. The Channel's operations on an engagement: the endings and the verify pass (R134 to R141),
release (R136, R86), position errors (R128), cancels (R143, R144) and the stop for RESTART (R149). -/

namespace Sys2Proof.Machine

/-- The state with the engaged channel's record changed. -/
def State.modChan (s : State) (f : Engagement → Engagement) : State := { s with chan := s.chan.map f }

/-- The address at an index of a request's run (R9, R122), in its spindle's geometry. -/
def State.runAddress (s : State) (r : Request) (index : Nat) : Addr :=
  match (s.spindle r.spindle).geometry with
  | none => r.start
  | some g => g.addressAt r.start index

/-- R133: the transfer index rises by 1, and the burst count with it. -/
def Engagement.advance (e : Engagement) : Engagement := { e with index := e.index + 1, burst := e.burst + 1 }

/-- R127, R123: a search begins for a target, on the target's surface, with its counts at 0 and no slot's mark taken. -/
def Engagement.searchFor (e : Engagement) (a : Addr) : Engagement :=
  { e with target := a, surface := a.surface, searchIndex := 0, searchMarks := 0, slotMarked := false, lastJudged := false, phase := .search }

/-! ### Release and completion -/

/-- R86: the hold reasons of a released request, all four. -/
def State.releaseHolds (s : State) (r : Request) (noBuffer : Bool) : Holds where
  spindle := s.spindleHold r.spindle
  barrier := barrierHold (s.olderThan r.tag) r
  noData := noDataHold r
  noBuffer := noBuffer

/-- R136, R86: the engaged request is given back with work remaining. With a cancel pending it completes CANCELLED instead. -/
def State.release (s : State) (t : Tag) (noBuffer : Bool) : State :=
  let s1 := s.closeChannel
  match s1.request t with
  | none => s1
  | some r =>
    if r.cancelPending then s1.complete t .cancelled none
    else s1.modRequest t fun q => Request.regrade { q with holds := s1.releaseHolds r noBuffer, status := .held }

/-- R97, R134: the completion of a request all of whose sectors are done. -/
def State.completeRun (s : State) (t : Tag) : State :=
  match s.request t with
  | none => s
  | some r => s.complete t (if r.suspects = 0 then .complete else .completeSuspect) none

/-- R68: Arm Control gives up the arm's position at a position error: ARM_LOST is posted and a restore issued. -/
def State.armLost (s : State) (p : Port) : State :=
  ((s.modSpindle p fun r => { r with arm := .unknown }).post p eventArmLost).issueRestore p

/-- R128: a position error met with the verify-pending list empty. -/
def State.positionError (s : State) (e : Engagement) : State :=
  let s1 := s.armLost e.spindle
  match s1.request e.tag with
  | none => s1.closeChannel
  | some r =>
    if r.budget = 0 then s1.complete e.tag .positionError none
    else (s1.modRequest e.tag Request.spendRetry).release e.tag false

/-! ### Endings and the verify pass -/

/-- R135: a head switch to the surface of the next address of the transfer. -/
def State.headSwitch (s : State) (next : Addr) : State := s.modChan fun e => e.searchFor next

/-- Whether the engaged WRITE's staged list is empty (Table 7-3). -/
def writeStarved (r : Request) : Bool := r.kind == .write && r.staged.isEmpty

/-- Table 7-4: an ending carried out with the verify-pending list empty. -/
def State.carryOut (s : State) (e : Engagement) (ending : Ending) : State :=
  match ending with
  | .runEnd => s.completeRun e.tag
  | .burstLimit => s.release e.tag false
  | .cylinderEnd => s.release e.tag false
  | .stagedEmpty => s.release e.tag false
  | .trackEnd =>
    match s.request e.tag with
    | none => s.closeChannel
    | some r => if writeStarved r then s.release e.tag false else s.headSwitch (s.runAddress r e.index)
  | .positionError => s.positionError e
  | .searchFailure => s.complete e.tag .sectorNotFound none
  | .writeProtected => s.complete e.tag .writeProtected none

/-- R138: the verify pass begins, with an ending deferred. -/
def State.beginPass (s : State) (entry : PendingEntry) (ending : Ending) : State :=
  s.modChan fun e =>
    { e with
      target := match s.request e.tag with
        | none => e.target
        | some r => s.runAddress r entry.index
      searchIndex := 0
      searchMarks := 0
      slotMarked := false
      lastJudged := false
      deferred := some ending
      phase := .pass none }

/-- R134, R138: an ending taken at once with nothing pending, and deferred to the end of a verify pass otherwise. -/
def State.endWith (s : State) (ending : Ending) : State :=
  match s.chan with
  | none => s
  | some e =>
    match e.pending with
    | [] => s.carryOut e ending
    | entry :: _ => s.beginPass entry ending

/-- R134: Table 7-3, the decisions after a sector end; `retry` when the failed sector is being retried. -/
def State.afterSector (s : State) (retry : Bool) : State :=
  match s.chan with
  | none => s
  | some e =>
    match s.request e.tag with
    | none => s
    | some r =>
      let next := s.runAddress r e.index
      if r.cancelPending then s.complete e.tag .cancelled none
      else if retry then s.modChan fun x => x.searchFor e.target
      else if e.index = r.count then s.endWith .runEnd
      else if s.params.burstLimit ≤ e.burst then s.endWith .burstLimit
      else if next.cylinder = e.target.cylinder ∧ next.surface ≠ e.target.surface then s.endWith .trackEnd
      else if next.cylinder ≠ e.target.cylinder then s.endWith .cylinderEnd
      else if writeStarved r then s.endWith .stagedEmpty
      else s.modChan fun x => x.searchFor next

/-! ### Searching -/

/-- R127: the bound on sector marks of a search, (REV_LIMIT + 1) × S. -/
def State.markBound (s : State) (p : Port) : Nat := (s.params.revLimit + 1) * (s.spindle p).sectors

/-- R127, R139: a search, or the search of a verify pass, fails. -/
def State.searchFailed (s : State) : State :=
  match s.chan with
  | none => s
  | some e =>
    match e.phase with
    | .search => s.endWith .searchFailure
    | .pass _ => s.complete e.tag .sectorNotFound none
    | .formatWait => s.complete e.tag .sectorNotFound none
    | _ => s

/-- R139: a position error of the pass: reported to Arm Control, and the request completes whatever its budget. -/
def State.passPositionError (s : State) (e : Engagement) : State :=
  (s.armLost e.spindle).complete e.tag .positionError none

/-! ### Stop -/

/-- R149: the channel stops for a RESTART: its buffers return, its record is cleared. The clearing step follows in the event. -/
def State.stopChannel (s : State) : State := s.closeChannel

/-- R149: the states in which a stop request stops the channel at once. -/
def Phase.stopsAtOnce : Phase → Bool
  | .search => true
  | .readField _ _ => true
  | .verifyField _ _ => true
  | .pass none => true
  | .formatWait => true
  | .formatWrite false => true
  | _ => false

/-- R143: the channel's act on a cancel set at this event: SEARCH, FORMAT_WAIT, and FORMAT_WRITE between slots take it at once,
the last after counting the slot (R142). -/
def State.cancelNow (s : State) (t : Tag) : State :=
  match s.chan with
  | none => s
  | some e =>
    if e.tag = t then
      match e.phase with
      | .search => s.complete t .cancelled none
      | .formatWait => s.complete t .cancelled none
      | .formatWrite false => (s.countSector t).complete t .cancelled none
      | _ => s
    else s

/-! ### Format slots -/

/-- R11, R142: the slot in work is on the media, written whole. -/
def State.writeFormatSlot (s : State) (e : Engagement) : State :=
  { s with media := mediaWrite s.media (e.place e.index) (formattedSlot e.target (s.engagedFill e)) }

/-- R142: the sector end of a format slot, at the mark that follows it: the slot is counted and the four decisions are taken. DESIGN
CHOICE (assumption 39): a mark that comes before the end of the trailing gap, with the gate still open, finds the slot written whole. -/
def State.formatSlotEnd (s : State) (isIndex : Bool) : State :=
  match s.chan with
  | none => s
  | some e =>
    let s1 := if e.phase = .formatWrite true then s.writeFormatSlot e else s
    if s.stopRequest then s1.stopChannel
    else
      let s2 := s1.countSector e.tag
      match s2.request e.tag with
      | none => s2
      | some r =>
        if r.cancelPending then s2.complete e.tag .cancelled none
        else if r.done = r.count then s2.completeRun e.tag
        else if isIndex then s2.complete e.tag .sectorNotFound none
        else
          s2.modChan fun x =>
            { x.advance with target := s2.runAddress r (x.index + 1), phase := .formatWrite true }

end Sys2Proof.Machine
end

