-- ==== Sys2Proof/Machine/ChannelEvents.lean ====
section
/-! DEFINITION. The Channel's own events: header reads (R125 to R131, R139), the ends of data fields (R132, R133, R140, R141) and
of format slots (R142). -/

namespace Sys2Proof.Machine

/-! ### Header reads -/

/-- The header that a header read delivers (R125). -/
def State.headerAt (s : State) (e : Engagement) (slot : Nat) : HeaderRead → Option (Word × Word × Word)
  | .recorded => (mediaRead s.media (e.place slot)).readHeader
  | .words w0 w1 w2 => some (w0, w1, w2)
  | .unrecovered => none

/-- R126, R139: whether the revolution limit is reached, so that the header that follows is the last one judged. -/
def State.limitReached (s : State) (e : Engagement) : Bool := decide (s.params.revLimit ≤ e.searchIndex)

/-- R126, R139: a header passed over; at the revolution limit it is the last one judged, and the search fails. -/
def State.passOver (s : State) (e : Engagement) : State := if s.limitReached e then s.searchFailed else s

/-- The state with the engaged channel in a phase. -/
def State.setPhase (s : State) (ph : Phase) : State := s.modChan fun e => { e with phase := ph }

/-- R129: the matched header of a READ. -/
def State.beginRead (s : State) (e : Engagement) (w0 : Word) (slot : Nat) : State :=
  if s.free = 0 then s.release e.tag true
  else (s.setFree (s.free - 1)).setPhase (.readField w0 slot)

/-- R130: the matched header of a WRITE. DEDUCED (assumption 13): with WPR asserted at the last header of a search the ending is
WRITE_PROTECTED, and not R126's failed search. -/
def State.beginWrite (s : State) (e : Engagement) (r : Request) (w0 : Word) (slot : Nat) : State :=
  if (s.spindle e.spindle).lines.wpr then s.endWith .writeProtected
  else
    match r.staged with
    | [] => s.endWith .stagedEmpty
    | b :: rest => (s.modRequest e.tag fun q => { q with staged := rest }).setPhase (.writeField w0 slot b)

/-- R129 to R131: a matched header begins the data phase. A FORMAT searches for nothing. -/
def State.beginData (s : State) (e : Engagement) (w0 : Word) (slot : Nat) : State :=
  match s.request e.tag with
  | none => s
  | some r =>
    match r.kind with
    | .read => s.beginRead e w0 slot
    | .write => s.beginWrite e r w0 slot
    | .verify => s.setPhase (.verifyField w0 slot)
    | .format => s

/-- What a header is to a search for an address (R126, R139). -/
inductive Judgement where
  | passed
  | misplaced
  | matched (word0 : Word)
  deriving DecidableEq, Repr

/-- R126, R139: a header judged against a target. -/
def judgeHeader (target : Addr) (h : Option (Word × Word × Word)) : Judgement :=
  match classifyHeader h, h with
  | .formatted a, some (w0, _, _) =>
    if a.cylinder ≠ target.cylinder ∨ a.surface ≠ target.surface then .misplaced
    else if a.sector = target.sector then .matched w0
    else .passed
  | _, _ => .passed

/-- R126: a header read in SEARCH. -/
def State.searchHeader (s : State) (e : Engagement) (slot : Nat) (h : Option (Word × Word × Word)) : State :=
  match judgeHeader e.target h with
  | .passed => s.passOver e
  | .misplaced => s.endWith .positionError
  | .matched w0 => s.beginData e w0 slot

/-- Whether cancel pending is set on a request (R93). -/
def State.cancelling (s : State) (t : Tag) : Bool := (s.request t).any (·.cancelPending)

/-- R139: whether the header now judged is the last one of the verify pass, noted for the headers that follow it. -/
def State.noteJudged (s : State) (last : Bool) : State := s.modChan fun e => { e with lastJudged := last }

/-- R139: a header judged in the verify pass. -/
def State.judgePass (s : State) (e : Engagement) (slot : Nat) (h : Option (Word × Word × Word)) : State :=
  match judgeHeader e.target h with
  | .passed => s.passOver e
  | .misplaced => s.passPositionError e
  | .matched w0 => s.setPhase (.pass (some (w0, slot)))

/-- R139, R143: a header read in the verify pass; a pending cancel is taken before the header is judged. DESIGN CHOICE (assumption
37): where the last header of the pass began a read and entries remain, the header after it is not judged and fails the pass. -/
def State.passHeader (s : State) (e : Engagement) (slot : Nat) (h : Option (Word × Word × Word)) : State :=
  if s.cancelling e.tag then s.complete e.tag .cancelled none
  else if s.limitReached e && e.lastJudged then s.searchFailed
  else (s.noteJudged (s.limitReached e)).judgePass e slot h

/-- R123: the header of the slot now passing is read; the next header is another slot's, after its mark. DEDUCED (assumption 36). -/
def State.slotRead (s : State) : State := s.modChan fun e => { e with slotMarked := false }

/-- R123, R125: a header read, taken in SEARCH and in the verify pass, of a slot whose mark was taken since the search began. -/
def State.headerRead (s : State) (slot : Nat) (read : HeaderRead) : State :=
  match s.chan with
  | none => s
  | some e =>
    if e.slotMarked then
      match e.phase with
      | .search => s.slotRead.searchHeader e slot (s.headerAt e slot read)
      | .pass none => s.slotRead.passHeader e slot (s.headerAt e slot read)
      | _ => s
    else s

/-- HEADER_READ. -/
def execHeaderRead (slot : Nat) (read : HeaderRead) (s : State) : Host.Outcome State Fault Refusal :=
  event s fun u => u.headerRead slot read

/-! ### The ends of data fields -/

/-- The data words and check word that a data field read delivers. -/
def State.fieldAt (s : State) (e : Engagement) (slot : Nat) : FieldRead → List Word × Option Word
  | .recorded => ((mediaRead s.media (e.place slot)).data, (mediaRead s.media (e.place slot)).check)
  | .words data check => (data, check)

/-- R132: whether the check word read is the one R6 gives under the matched header's word 0. -/
def checkGood (field : List Word × Option Word) (w0 : Word) : Bool := field.2 == some (checkWord field.1 w0)

/-- R132, R133: a sector read is done; the next decision follows. -/
def State.sectorRead (s : State) (e : Engagement) : State :=
  ((s.modChan fun x => { x.advance with phase := .search }).countSector e.tag).afterSector false

/-- R132: a READ delivers its buffer in work as an RDATA entry at the tail of the Stream. -/
def State.deliver (s : State) (e : Engagement) (data : List Word) (suspect : Bool) : State :=
  { s with
    stream := s.stream ++ [StreamEntry.rdata (Buffer.mk e.tag e.index (bytesOfWords data)) e.spindle e.target suspect] }

/-- R131, R132: what a sector read leaves in the Stream: an RDATA entry for a READ, which fills a buffer, and nothing for a
VERIFY request. -/
def State.deliverRead (s : State) (e : Engagement) (data : List Word) (suspect : Bool) : State :=
  match e.phase with
  | .readField _ _ => s.deliver e data suspect
  | _ => s

/-- R132: a suspect sector noted in its request. -/
def Request.noteSuspect (r : Request) (index : Nat) : Request :=
  { r with suspects := r.suspects + 1, firstSuspect := some (r.firstSuspect.getD index) }

/-- R132: a failed sector with budget left: the buffer returns, the retry is charged, and the search begins again unless a cancel
is pending. -/
def State.retrySector (s : State) (e : Engagement) : State :=
  (((s.setPhase .search).returnBuffers e.phase.buffers).modRequest e.tag Request.spendRetry).afterSector true

/-- R132: the end of a data field read for a READ or VERIFY request. -/
def State.readEnd (s : State) (e : Engagement) (r : Request) (w0 : Word) (field : List Word × Option Word) : State :=
  if checkGood field w0 then (s.deliverRead e field.1 false).sectorRead e
  else if r.budget ≠ 0 then s.retrySector e
  else if r.flags.tolerate then
    ((s.deliverRead e field.1 true).modRequest e.tag fun q => q.noteSuspect e.index).sectorRead e
  else s.complete e.tag .dataCheck none

/-- R10: the data field of a write is on the media, whole. -/
def State.writeSector (s : State) (e : Engagement) (w0 : Word) (slot : Nat) (b : Buffer) : State :=
  { s with
    media := mediaWrite s.media (e.place slot) (writtenSlot (mediaRead s.media (e.place slot)) (wordsOfBytes b.payload) w0) }

/-- R133: the written sector joins the verify-pending list, uncounted. -/
def State.pendSector (s : State) (e : Engagement) (w0 : Word) (b : Buffer) : State :=
  s.modChan fun x =>
    { x.advance with pending := x.pending ++ [⟨e.index, b, checkWord (wordsOfBytes b.payload) w0⟩], phase := .search }

/-- R133, R158: the written sector is counted and its buffer returns. -/
def State.countWritten (s : State) (e : Engagement) : State :=
  ((s.modChan fun x => { x.advance with phase := .search }).countSector e.tag).returnBuffers 1

/-- R130, R133, R149: the end of a written data field. -/
def State.writeEnd (s : State) (e : Engagement) (r : Request) (w0 : Word) (slot : Nat) (b : Buffer) : State :=
  let s1 := s.writeSector e w0 slot b
  if s.stopRequest then s1.stopChannel
  else if r.flags.verifyAfter then (s1.pendSector e w0 b).afterSector false
  else (s1.countWritten e).afterSector false

/-- R141: the clean pass: the deferred ending is cleared and carried out. -/
def State.cleanPass (s : State) (e : Engagement) (r : Request) : State :=
  let s1 := s.modChan fun x => { x.searchFor (s.runAddress r e.index) with deferred := none }
  match e.deferred with
  | none => s1
  | some ending => s1.carryOut e ending

/-- R140, R141: a pending sector found as written: its buffer returns, it is counted, and the pass goes on or ends. -/
def State.entryGood (s : State) (e : Engagement) (rest : List PendingEntry) : State :=
  let s1 := ((s.modChan fun x => { x with pending := rest, phase := .pass none }).returnBuffers 1).countSector e.tag
  match s1.request e.tag with
  | none => s1
  | some r =>
    if r.cancelPending then s1.complete e.tag .cancelled none
    else
      match rest with
      | next :: _ => s1.modChan fun x => { x with target := s1.runAddress r next.index }
      | [] => s1.cleanPass e r

/-- R140, R149: the end of a data field read in the verify pass. -/
def State.passEnd (s : State) (e : Engagement) (w0 : Word) (field : List Word × Option Word) : State :=
  if s.stopRequest then s.stopChannel
  else
    match e.pending with
    | [] => s
    | entry :: rest =>
      if checkWord field.1 w0 = entry.check ∧ checkGood field w0 then s.entryGood e rest
      else s.complete e.tag .verifyMismatch none

/-- The end of a data field, as the phase of the Channel takes it. -/
def State.dataFieldEnd (s : State) (read : FieldRead) : State :=
  match s.chan with
  | none => s
  | some e =>
    match s.request e.tag with
    | none => s
    | some r =>
      match e.phase with
      | .readField w0 slot => s.readEnd e r w0 (s.fieldAt e slot read)
      | .verifyField w0 slot => s.readEnd e r w0 (s.fieldAt e slot read)
      | .writeField w0 slot b => s.writeEnd e r w0 slot b
      | .pass (some (w0, slot)) => s.passEnd e w0 (s.fieldAt e slot read)
      | _ => s

/-- DATA_FIELD_END. -/
def execDataFieldEnd (read : FieldRead) (s : State) : Host.Outcome State Fault Refusal :=
  event s fun u => u.dataFieldEnd read

/-! ### The trailing gap of a format slot -/

/-- R142, R149: the trailing gap of the slot in work: the gate closes until the next mark. A stop or a cancel is taken there. -/
def State.formatSlotWritten (s : State) : State :=
  match s.chan with
  | none => s
  | some e =>
    match e.phase with
    | .formatWrite true =>
      let s1 := s.writeFormatSlot e
      if s.stopRequest then s1.stopChannel
      else if s.cancelling e.tag then (s1.countSector e.tag).complete e.tag .cancelled none
      else s1.setPhase (.formatWrite false)
    | _ => s

/-- FORMAT_SLOT_WRITTEN. -/
def execFormatSlotWritten (s : State) : Host.Outcome State Fault Refusal := event s State.formatSlotWritten

end Sys2Proof.Machine
end

