-- ==== Sys2Proof/Machine/LinkEvents.lean ====
section
/-! DEFINITION. The events of the link (R166 to R168, R173, R191) and of the reset line (R150, R183, R184). -/

namespace Sys2Proof.Machine

/-! ### The receive side -/

/-- A discard count raised by 1, held at 65535 (R167). -/
def countDiscard (n : Nat) : Nat := min 65535 (n + 1)

/-- The state with the parser's state replaced (R166). -/
def State.setParser (s : State) (p : Parser) : State := { s with parser := p }

/-- R167: an overrun is counted. -/
def State.noteOverrun (s : State) : State := { s with notice := { s.notice with overruns := countDiscard s.notice.overruns } }

/-- R167: a check failure is counted. -/
def State.noteCheckFailure (s : State) : State :=
  { s with notice := { s.notice with checkFailures := countDiscard s.notice.checkFailures } }

/-- R167: a length error is counted. -/
def State.noteLengthError (s : State) : State :=
  { s with notice := { s.notice with lengthErrors := countDiscard s.notice.lengthErrors } }

/-- R167: a gap timeout is counted. -/
def State.noteGapTimeout (s : State) : State :=
  { s with notice := { s.notice with gapTimeouts := countDiscard s.notice.gapTimeouts } }

/-- R166: an intact frame joins the tail of the inbound queue. -/
def State.pushInbound (s : State) (f : Frame) : State := { s with inbound := s.inbound ++ [f] }

/-- R166, R168: a start byte in HUNT begins a frame, with or without room in the inbound queue. -/
def State.beginFrame (s : State) : State :=
  match s.parser with
  | .hunt => s.setParser (.frame (decide (s.inbound.length < Config.inboundRoom)) s.now)
  | .frame _ _ => s

/-- FRAME_BEGUN: a start byte. In FRAME a byte of that value has no framing meaning (R165). -/
def execFrameBegun (s : State) : Host.Outcome State Fault Refusal := event s State.beginFrame

/-- R167: whether a byte of a frame can come at the present moment: the last of `count` bytes after the start byte, each at most 10 ms
after the byte before it. DESIGN CHOICE (assumption 35): the bytes between are not commands, so any moments that satisfy the limit are
allowed them. -/
def State.byteTimely (s : State) (begun count : Nat) : Bool := decide (s.now ≤ begun + count * Config.byteGap)

/-- R166, R167: what a frame's last check byte, when it comes in time, makes of the frame. -/
def State.closeFrame (s : State) (room : Bool) (f : Frame) (check : Half) : State :=
  if !room then (s.setParser .hunt).noteOverrun
  else if check = frameCheck f.kind f.seq f.body then (s.setParser .hunt).pushInbound f
  else (s.setParser .hunt).noteCheckFailure

/-- R166, R167: a frame's last check byte. A frame in progress has at most 1,040 body bytes. -/
def State.endFrame (s : State) (kind seq : Byte) (body : List Byte) (check : Half) : State :=
  match s.parser with
  | .hunt => s
  | .frame room begun =>
    if Config.maxBody < body.length then s
    else if s.byteTimely begun (body.length + Config.framingBytes) then s.closeFrame room ⟨kind, seq, body⟩ check
    else s

/-- FRAME_RECEIVED. -/
def execFrameReceived (kind seq : Byte) (body : List Byte) (check : Half) (s : State) :
    Host.Outcome State Fault Refusal :=
  event s fun u => u.endFrame kind seq body check

/-- R167: a length field above 1,040 in a frame in progress, at the fourth byte after its start byte. -/
def State.breakLength (s : State) (length : Half) : State :=
  match s.parser with
  | .hunt => s
  | .frame _ begun =>
    if Config.maxBody < length.toNat ∧ s.byteTimely begun Config.headBytes = true then (s.setParser .hunt).noteLengthError else s

/-- LENGTH_ERROR. -/
def execLengthError (length : Half) (s : State) : Host.Outcome State Fault Refusal := event s fun u => u.breakLength length

/-- R167: the gap timeout of a frame in progress: 10 ms after its last byte, so not before 10 ms after its start byte. -/
def State.breakGap (s : State) : State :=
  match s.parser with
  | .hunt => s
  | .frame _ begun => ((s.clockTo (begun + Config.byteGap)).setParser .hunt).noteGapTimeout

/-- GAP_TIMEOUT. -/
def execGapTimeout (s : State) : Host.Outcome State Fault Refusal := event s State.breakGap

/-! ### The transmit side -/

/-- R173, R161: the last check byte of the frame in transmission is sent, and an RDATA's buffer returns. -/
def State.endTransmission (s : State) : State :=
  match s.line with
  | none => s
  | some f => (s.setLine none).returnBuffers (if f.holdsBuffer then 1 else 0)

/-- FRAME_TRANSMISSION_END. -/
def execFrameTransmissionEnd (s : State) : Host.Outcome State Fault Refusal := event s State.endTransmission

/-! ### The reset line -/

/-- R183, R184: RSTn asserted: the frames being received and transmitted are cut off, and the device holds itself in reset. The
buffer of an RDATA cut off stays where it is until the release (R151, R161). DEDUCED (assumption 40). -/
def State.assertReset (s : State) : State :=
  { s with inReset := true, parser := .hunt, line := none, cutOff := s.cutOff || s.line.any (·.holdsBuffer) }

/-- RSTN_ASSERTED. -/
def execRstnAsserted (s : State) : Host.Outcome State Fault Refusal := .next s.assertReset

/-- R183: hardware reset. A sector being written is torn (R150); the media, the port line levels, the time base and the waiting
commands are not the device's records and stand. -/
def State.hardwareReset (s : State) : State :=
  { State.reset with
    pending := s.pending
    now := s.now
    freeUses := s.tearSector.freeUses
    media := s.tearSector.media
    spindles := s.spindles.map fun r => Spindle.reset r.lines }

/-- HARDWARE_RESET. -/
def execHardwareReset (s : State) : Host.Outcome State Fault Refusal := .next s.hardwareReset

end Sys2Proof.Machine
end

