-- ==== Sys2Proof/Machine/Marks.lean ====
section
/-! DEFINITION. Sector marks and index marks (R27, R45 to R51, R56, R127, R142). One mark is one event, taken by the Spindle
Manager, then by the Position Tracker, then by the Channel. DESIGN CHOICE: that order. -/

namespace Sys2Proof.Machine

/-- R45: whether a spindle's tracker takes a mark. -/
def Spindle.takesMarks (r : Spindle) : Bool := r.state.spinning && r.lines.spun

/-- The state with a spindle's tracker record changed. -/
def State.modTracker (s : State) (p : Port) (f : Tracker → Tracker) : State :=
  s.modSpindle p fun r => { r with tracker := f r.tracker }

/-- R46: the position acquired at an index mark. -/
def Tracker.acquire (t : Tracker) (now : Nat) : Tracker := { t with tracked := true, sector := 0, indexTime := some now }

/-- R56: the revolution period measured at a clean revolution; it stands when no index time was recorded. -/
def Tracker.measured (t : Tracker) (now : Nat) : Option Nat :=
  match t.indexTime with
  | none => t.period
  | some t0 => some (min Config.maxPeriod (now - t0))

/-- R49: a clean revolution. -/
def Tracker.clean (t : Tracker) (now : Nat) : Tracker where
  tracked := true
  sector := 0
  errors := 0
  period := t.measured now
  indexTime := some now

/-- R51: one tracking error counted, held at the limit. -/
def Tracker.countError (t : Tracker) (limit : Nat) : Tracker := { t with errors := min limit (t.errors + 1) }

/-- R48: the record after an INDEX_LOST. -/
def Tracker.indexLost (t : Tracker) (limit : Nat) : Tracker := { t.countError limit with tracked := false, sector := 0 }

/-- R50: the record after a SHORT_REVOLUTION. -/
def Tracker.shortRevolution (t : Tracker) (limit now : Nat) : Tracker :=
  { t.countError limit with sector := 0, indexTime := some now }

/-- R51, R38: the fault threshold reported to the Spindle Manager, which takes the report in READY alone. -/
def State.reportThreshold (s : State) (p : Port) : State :=
  if (s.spindle p).state = .ready ∧ (s.spindle p).tracker.errors = s.params.trackFaultLimit then s.enterFaulted p .tracking
  else s

/-- R52: a change of the tracked flag in READY is reported to the Request Table. -/
def State.reportTracked (s : State) (p : Port) : State :=
  if (s.spindle p).state = .ready then s.evalSpindleHold p else s

/-- R48: INDEX_LOST. -/
def State.indexLost (s : State) (p : Port) : State :=
  let s1 := (s.modTracker p fun t => t.indexLost s.params.trackFaultLimit).post p eventPositionLost
  (s1.reportTracked p).reportThreshold p

/-- R50: SHORT_REVOLUTION. -/
def State.shortRevolution (s : State) (p : Port) : State :=
  let s1 := (s.modTracker p fun t => t.shortRevolution s.params.trackFaultLimit s.now).post p eventPositionLost
  s1.reportThreshold p

/-- R47, R48: a sector mark without IDX at the tracker. -/
def State.trackSector (s : State) (p : Port) : State :=
  let r := s.spindle p
  if r.takesMarks && r.tracker.tracked then
    if r.tracker.sector + 1 < r.sectors then s.modTracker p fun t => { t with sector := t.sector + 1 }
    else s.indexLost p
  else s

/-- R27, R46: the index mark that moves a spindle in SPINNING_UP to READY. -/
def State.enterReady (s : State) (p : Port) : State :=
  let s1 := (s.modTracker p fun t => t.acquire s.now).enterState p .ready
  ((s1.issueRestore p).touchActivity p).startIdle p

/-- R46, R49, R50: an index mark at the tracker of a spindle past SPINNING_UP. -/
def State.trackIndex (s : State) (p : Port) : State :=
  let r := s.spindle p
  if r.tracker.tracked then
    if r.tracker.sector + 1 = r.sectors then s.modTracker p fun t => t.clean s.now else s.shortRevolution p
  else if r.state = .ready then (s.modTracker p fun t => t.acquire s.now).reportTracked p
  else s

/-- An index mark at the Spindle Manager and the tracker. -/
def State.spindleIndex (s : State) (p : Port) : State :=
  let r := s.spindle p
  if r.takesMarks then if r.state = .spinningUp then s.enterReady p else s.trackIndex p else s

/-- R127, R123: a mark counted in a search; the header of the slot it begins will be read. The index count holds at 7, the largest REV_LIMIT. -/
def Engagement.countMark (e : Engagement) (isIndex : Bool) : Engagement :=
  { e with
    searchMarks := e.searchMarks + 1
    slotMarked := true
    searchIndex := if isIndex then min 7 (e.searchIndex + 1) else e.searchIndex }

/-- R127, R139, R142: a mark counted by the Channel, and the failure of a search at the bound on marks. -/
def State.countedMark (s : State) (e : Engagement) (isIndex : Bool) : State :=
  let s1 := s.modChan fun x => x.countMark isIndex
  if s.markBound e.spindle ≤ e.searchMarks + 1 then s1.searchFailed else s1

/-- R142: the index mark that a FORMAT waits for. -/
def State.formatIndex (s : State) (e : Engagement) : State :=
  if (s.spindle e.spindle).lines.wpr then s.complete e.tag .writeProtected none
  else s.modChan fun x => { x with phase := .formatWrite true }

/-- R123: a mark of the selected spindle at the Channel, whatever its tracker does. -/
def State.channelMark (s : State) (p : Port) (isIndex : Bool) : State :=
  match s.chan with
  | none => s
  | some e =>
    if e.spindle = p then
      match e.phase with
      | .search => s.countedMark e isIndex
      | .pass _ => s.countedMark e isIndex
      | .formatWait => if isIndex then s.formatIndex e else s.countedMark e false
      | .formatWrite _ => s.formatSlotEnd isIndex
      | .readField _ _ => s
      | .writeField _ _ _ => s
      | .verifyField _ _ => s
    else s

/-- SECTOR_MARK. -/
def execSectorMark (p : Port) (s : State) : Host.Outcome State Fault Refusal :=
  event s fun u => (u.trackSector p).channelMark p false

/-- INDEX_MARK, at its moment of the time base. -/
def execIndexMark (p : Port) (moment : Nat) (s : State) : Host.Outcome State Fault Refusal :=
  event s fun u => ((u.clockTo moment).spindleIndex p).channelMark p true

end Sys2Proof.Machine
end

