-- ==== Sys2Proof/Machine/Handle.lean ====
section
/-! DEFINITION. The handling of a host message (R169, R170): when it begins, and the one REPLY that ends it. -/

namespace Sys2Proof.Machine

/-- R169: whether the handling of this message may begin: its frame is the inbound queue's head, no RESTART is in progress, the
reply queue has room and the Stream holds fewer than 32 DONE entries. -/
def State.canHandle (s : State) (i : Instr) : Bool :=
  !s.inReset && (s.inbound.head?.map decodeFrame == some i) && s.restart.isNone &&
    decide (s.replies.length < Config.replyRoom) && decide (s.streamDones < Config.doneRoom)

/-- The head frame leaves the inbound queue (R168). -/
def State.popInbound (s : State) : State := { s with inbound := s.inbound.tail }

/-- What the judgement of a message gives: the reply's code, its further body, and the state. -/
structure Judged where
  code : Code
  further : List Byte
  state : State

/-- A message refused: it changes nothing and its REPLY has no further body (R170). -/
def refuse (code : Code) (s : State) : Judged := ⟨code, [], s⟩

/-- A message accepted, its effects made. -/
def accept (s : State) : Judged := ⟨.ok, [], s⟩

/-- R169, R170: the handling of a message in one event: judged and carried out by its owner, then one REPLY, then the arbiter.
A message whose handling may not begin is not taken. -/
def handle (i : Instr) (kind seq : Byte) (judge : State → Judged) (s : State) : Host.Outcome State Fault Refusal :=
  if s.canHandle i then
    let s1 := s.popInbound
    let j := judge s1
    .next (serve s1 ((finish s1 j.state).pushReply kind seq j.code j.further))
  else .next s

/-- A message whose fields are judged when its body has an allowed length, and refused BAD_FIELD otherwise (R169). -/
def judgeBody {α : Type} (m : Body α) (judge : α → State → Judged) (s : State) : Judged :=
  match m with
  | .fields a => judge a s
  | .otherLength _ => refuse .badField s

end Sys2Proof.Machine
end

