-- ==== Sys2Proof/Machine/Messages.lean ====
section
/-! DEFINITION. ECHO (R179), the refusals of the Link Controller (R169, R17, R176, R178) and RESTART (R180 to R182). -/

namespace Sys2Proof.Machine

/-- R179: the judgement of an ECHO. -/
def judgeEcho (body : List Byte) (s : State) : Judged :=
  if body.length ≤ Config.maxEcho then ⟨.ok, body, s⟩ else refuse .badField s

/-- ECHO. -/
def execEcho (seq : Byte) (body : List Byte) (s : State) : Host.Outcome State Fault Refusal :=
  handle (.echo seq body) 0x09 seq (judgeEcho body) s

/-- R169: a kind that is none of the nine host kinds. -/
def execUnknownKind (kind seq : Byte) (body : List Byte) (s : State) : Host.Outcome State Fault Refusal :=
  handle (.unknownKind kind seq body) kind seq (refuse .unknownKind) s

/-- R169: a message whose body length, action, parameter id or selector is none that its kind allows. -/
def execMessageRefusedBadField (kind seq : Byte) (body : List Byte) (s : State) : Host.Outcome State Fault Refusal :=
  handle (.messageRefusedBadField kind seq body) kind seq (refuse .badField) s

/-- R149: what the Channel does in the event in which the stop request is set. -/
def State.stopNow (s : State) : State :=
  match s.chan with
  | none => s
  | some e => if e.phase.stopsAtOnce then s.stopChannel else s

/-- R180: the RESTART is in progress, and the choice hold and the stop request are set. -/
def State.beginRestart (s : State) (seq : Byte) : State :=
  { s with restart := some seq, choiceHold := true, stopRequest := true }

/-- R180: the taking of a RESTART. -/
def State.takeRestart (s : State) (seq : Byte) : State := (s.beginRestart seq).stopNow

/-- RESTART. Taken with an empty body, it is replied to at the clearing step that ends it (R182). -/
def execRestart (seq : Byte) (body : List Byte) (s : State) : Host.Outcome State Fault Refusal :=
  if s.canHandle (.restart seq body) && body.isEmpty then
    .next (settle s.popInbound (s.popInbound.takeRestart seq))
  else handle (.restart seq body) 0x08 seq (refuse .badField) s

end Sys2Proof.Machine
end

