-- ==== Sys2Proof/Machine/Parameters.lean ====
section
/-! DEFINITION. SETP of each parameter (R178 and the rules of Table 9-9) and GETP (R177). -/

namespace Sys2Proof.Machine

/-- R178: a parameter's value stored. -/
def State.putParam (s : State) (id : ParamId) (v : Nat) : State := { s with params := s.params.put v id }

/-- R90: a request under a new AGE_LIMIT, in ms: not yet overdue, it is re-timed from its admission, and marked overdue when the new
deadline has come. -/
def Request.retime (r : Request) (now limit : Nat) : Request :=
  if r.overdue then r
  else if r.admitted + millisUs limit ≤ now then { r with overdue := true, ageTimer := none }
  else { r with ageTimer := some (r.admitted + millisUs limit) }

/-- R90: every request of the table under a new AGE_LIMIT. -/
def State.retimeAll (s : State) (limit : Nat) : State :=
  { s with table := s.table.map fun r => r.retime s.now limit }

/-- R51: every tracking error count above a new TRACK_FAULT_LIMIT lowered to it. -/
def State.capErrors (s : State) (limit : Nat) : State :=
  allPorts.foldl
    (fun u p => u.modSpindle p fun r => { r with tracker := { r.tracker with errors := min r.tracker.errors limit } }) s

/-- R178: what the owning block does with an accepted value that differs from the one in force. Timeouts apply to timers started
afterwards and the other limits are read at their next use, so they are only stored. -/
def State.applyParam (s : State) (id : ParamId) (v : Nat) : State :=
  match id with
  | .ageLimit => (s.putParam id v).retimeAll v
  | .trackFaultLimit => (s.putParam id v).capErrors v
  | _ => s.putParam id v

/-- R42: a limit below its present count. -/
def limitInUse (s : State) (id : ParamId) (v : Nat) : Bool :=
  match id with
  | .spinLimit => decide (v < s.spinningCount)
  | .surgeLimit => decide (v < s.risingCount)
  | _ => false

/-- R178: the judgement of a SETP of a parameter. A value equal to the one in force changes nothing. -/
def judgeSetp (id : ParamId) (value : Word) (s : State) : Judged :=
  let v := value.toNat
  if !paramInRange v id then refuse .badField s
  else if limitInUse s id v then refuse .limitInUse s
  else if s.params.get id = v then accept s
  else accept (s.applyParam id v)

/-- SETP of SPIN_LIMIT. -/
def execSetpSpinLimit (seq : Byte) (value : Word) (s : State) : Host.Outcome State Fault Refusal :=
  handle (.setpSpinLimit seq value) 0x05 seq (judgeSetp .spinLimit value) s

/-- SETP of SURGE_LIMIT. -/
def execSetpSurgeLimit (seq : Byte) (value : Word) (s : State) : Host.Outcome State Fault Refusal :=
  handle (.setpSurgeLimit seq value) 0x05 seq (judgeSetp .surgeLimit value) s

/-- SETP of SPINUP_TIMEOUT. -/
def execSetpSpinupTimeout (seq : Byte) (value : Word) (s : State) : Host.Outcome State Fault Refusal :=
  handle (.setpSpinupTimeout seq value) 0x05 seq (judgeSetp .spinupTimeout value) s

/-- SETP of SPINDOWN_TIMEOUT. -/
def execSetpSpindownTimeout (seq : Byte) (value : Word) (s : State) : Host.Outcome State Fault Refusal :=
  handle (.setpSpindownTimeout seq value) 0x05 seq (judgeSetp .spindownTimeout value) s

/-- SETP of IDLE_TIMEOUT. -/
def execSetpIdleTimeout (seq : Byte) (value : Word) (s : State) : Host.Outcome State Fault Refusal :=
  handle (.setpIdleTimeout seq value) 0x05 seq (judgeSetp .idleTimeout value) s

/-- SETP of SEEK_TIMEOUT. -/
def execSetpSeekTimeout (seq : Byte) (value : Word) (s : State) : Host.Outcome State Fault Refusal :=
  handle (.setpSeekTimeout seq value) 0x05 seq (judgeSetp .seekTimeout value) s

/-- SETP of REV_LIMIT. -/
def execSetpRevLimit (seq : Byte) (value : Word) (s : State) : Host.Outcome State Fault Refusal :=
  handle (.setpRevLimit seq value) 0x05 seq (judgeSetp .revLimit value) s

/-- SETP of RETRY_LIMIT. -/
def execSetpRetryLimit (seq : Byte) (value : Word) (s : State) : Host.Outcome State Fault Refusal :=
  handle (.setpRetryLimit seq value) 0x05 seq (judgeSetp .retryLimit value) s

/-- SETP of BURST_LIMIT. -/
def execSetpBurstLimit (seq : Byte) (value : Word) (s : State) : Host.Outcome State Fault Refusal :=
  handle (.setpBurstLimit seq value) 0x05 seq (judgeSetp .burstLimit value) s

/-- SETP of AGE_LIMIT. -/
def execSetpAgeLimit (seq : Byte) (value : Word) (s : State) : Host.Outcome State Fault Refusal :=
  handle (.setpAgeLimit seq value) 0x05 seq (judgeSetp .ageLimit value) s

/-- SETP of STAGE_DEPTH. -/
def execSetpStageDepth (seq : Byte) (value : Word) (s : State) : Host.Outcome State Fault Refusal :=
  handle (.setpStageDepth seq value) 0x05 seq (judgeSetp .stageDepth value) s

/-- SETP of READ_RESERVE. -/
def execSetpReadReserve (seq : Byte) (value : Word) (s : State) : Host.Outcome State Fault Refusal :=
  handle (.setpReadReserve seq value) 0x05 seq (judgeSetp .readReserve value) s

/-- SETP of TRACK_FAULT_LIMIT. -/
def execSetpTrackFaultLimit (seq : Byte) (value : Word) (s : State) : Host.Outcome State Fault Refusal :=
  handle (.setpTrackFaultLimit seq value) 0x05 seq (judgeSetp .trackFaultLimit value) s

/-- R177: the judgement of a GETP: the id and the value in force. -/
def judgeGetp (id : Byte) (s : State) : Judged :=
  match paramOf id with
  | none => refuse .badField s
  | some q => ⟨.ok, id :: le32Nat (s.params.get q), s⟩

/-- GETP. -/
def execGetp (seq : Byte) (m : Body Byte) (s : State) : Host.Outcome State Fault Refusal :=
  handle (.getp seq m) 0x06 seq (judgeBody m judgeGetp) s

end Sys2Proof.Machine
end

