-- ==== Sys2Proof/Machine/PortEvents.lean ====
section
/-! DEFINITION. The events of the port status lines at the Spindle Manager (R14, R31, R36, R37, R40, R41). The level on a line is
the unit's: it changes whether or not the device takes the event. -/

namespace Sys2Proof.Machine

/-- The level on PRES changes. -/
def State.setPres (s : State) (p : Port) (level : Bool) : State :=
  s.modSpindle p fun r => { r with lines := { r.lines with pres := level } }

/-- The level on SPUN changes. -/
def State.setSpun (s : State) (p : Port) (level : Bool) : State :=
  s.modSpindle p fun r => { r with lines := { r.lines with spun := level } }

/-- The level on WPR changes. -/
def State.setWpr (s : State) (p : Port) (level : Bool) : State :=
  s.modSpindle p fun r => { r with lines := { r.lines with wpr := level } }

/-- A change of a line's level: the new level stands on the line, and the effect is the device's when it is not in reset. A level
that the line has already is no change and no event. -/
def lineChange (changed : Bool) (level effect : State → State) (s : State) : Host.Outcome State Fault Refusal :=
  if !changed then .next s
  else if s.inReset then .next (level s)
  else .next (settle s (effect (level s)))

/-- R40: the falling of PRES. -/
def State.presFall (s : State) (p : Port) : State :=
  match (s.spindle p).state with
  | .unconfigured => s
  | .absent => s
  | _ => s.enterAbsent p

/-- PRES_FALLING. -/
def execPresFalling (p : Port) (s : State) : Host.Outcome State Fault Refusal :=
  lineChange (s.spindle p).lines.pres (fun u => u.setPres p false) (fun u => u.presFall p) s

/-- R40: the rising of PRES. -/
def State.presRise (s : State) (p : Port) : State :=
  match (s.spindle p).state with
  | .absent => s.enterState p .parked
  | _ => s

/-- PRES_RISING. -/
def execPresRising (p : Port) (s : State) : Host.Outcome State Fault Refusal :=
  lineChange (!(s.spindle p).lines.pres) (fun u => u.setPres p true) (fun u => u.presRise p) s

/-- R36, R31: a change of SPUN at the Spindle Manager. -/
def State.spunChange (s : State) (p : Port) (level : Bool) : State :=
  if level then s
  else
    match (s.spindle p).state with
    | .ready => s.enterFaulted p .speedLost
    | .spinningDown => s.endSpinDown p
    | _ => s

/-- SPUN_CHANGE. -/
def execSpunChange (p : Port) (level : Bool) (s : State) : Host.Outcome State Fault Refusal :=
  lineChange ((s.spindle p).lines.spun != level) (fun u => u.setSpun p level) (fun u => u.spunChange p level) s

/-- R37: a rising edge of UFLT. -/
def State.unitFault (s : State) (p : Port) : State :=
  match (s.spindle p).state with
  | .unconfigured => s
  | .absent => s
  | .faulted => s
  | _ => s.enterFaulted p .unitFault

/-- UFLT_RISING. -/
def execUfltRising (p : Port) (s : State) : Host.Outcome State Fault Refusal := event s fun u => u.unitFault p

/-- R41, R14: an event posted for a configured spindle. -/
def State.postConfigured (s : State) (p : Port) (kind : EventSet) : State :=
  if (s.spindle p).configured then s.post p kind else s

/-- WPR_LEVEL_CHANGE. -/
def execWprLevelChange (p : Port) (level : Bool) (s : State) : Host.Outcome State Fault Refusal :=
  lineChange ((s.spindle p).lines.wpr != level) (fun u => u.setWpr p level) (fun u => u.postConfigured p eventWprChange) s

/-- ATN_RISING. -/
def execAtnRising (p : Port) (s : State) : Host.Outcome State Fault Refusal :=
  event s fun u => u.postConfigured p eventAttention

end Sys2Proof.Machine
end

