-- ==== Sys2Proof/Machine/Requests.lean ====
section
/-! DEFINITION. SUBMIT (R76 to R81), WDATA (R154 to R156) and CANCEL (R91 to R93). -/

namespace Sys2Proof.Machine

/-! ### SUBMIT -/

/-- R77: the refusal that a spindle's state gives a SUBMIT. -/
def stateRefusal : SpindleState → Option Code
  | .unconfigured => some .noSpindle
  | .absent => some .spindleAbsent
  | .faulted => some .spindleFaulted
  | _ => none

/-- R78: whether the run fits the spindle's geometry; an address on a spindle with no geometry lies within nothing (R7). -/
def runFits (r : Spindle) (m : SubmitRequest) : Bool := r.geometry.any fun g => g.fits m.kind m.start m.count

/-- Table 5-2, checks 2 to 5: the refusal of a SUBMIT whose fields are legal, if it is refused. -/
def submitRefusal (s : State) (m : SubmitRequest) : Option Code :=
  if (s.request m.tag).isSome then some .tagInUse
  else
    match stateRefusal (s.spindle m.spindle).state with
    | some c => some c
    | none =>
      if !runFits (s.spindle m.spindle) m then some .range
      else if (m.kind == .write || m.kind == .format) && (s.spindle m.spindle).lines.wpr then some .writeProtected
      else none

/-- Table 5-1 "At admission", R80, R81: the record of an admitted request, before its hold reasons are evaluated. -/
def newRequest (s : State) (m : SubmitRequest) : Request where
  tag := m.tag
  kind := m.kind
  spindle := m.spindle
  start := m.start
  count := match m.kind with
    | .format => (s.spindle m.spindle).sectors
    | _ => m.count
  flags := m.flags
  fill := m.fill
  admitted := s.now
  status := .held
  holds := ⟨false, false, false, false⟩
  next := m.start
  done := 0
  suspects := 0
  firstSuspect := none
  retries := 0
  budget := freshBudget s.params.retryLimit m.flags
  overdue := false
  cancelPending := false
  frontier := 0
  staged := []
  ageTimer := some (s.now + millisUs s.params.ageLimit)

/-- R81 step 4: an admitted request with its hold reasons evaluated, behind every request of the table. -/
def admittedRequest (s : State) (m : SubmitRequest) : Request :=
  let r := newRequest s m
  Request.regrade
    { r with holds := ⟨s.spindleHold m.spindle, barrierHold s.table r, noDataHold r, false⟩ }

/-- R81: an admission. -/
def State.admitRequest (s : State) (m : SubmitRequest) : State :=
  (s.setTable (s.table ++ [admittedRequest s m])).registerDemand m.spindle

/-- R76 to R81: the judgement of a SUBMIT. -/
def judgeSubmit (m : SubmitFields) (s : State) : Judged :=
  match parseSubmit m with
  | none => refuse .badField s
  | some r =>
    match submitRefusal s r with
    | some c => refuse c s
    | none => accept (s.admitRequest r)

/-- SUBMIT. -/
def execSubmit (seq : Byte) (m : Body SubmitFields) (s : State) : Host.Outcome State Fault Refusal :=
  handle (.submit seq m) 0x01 seq (judgeBody m judgeSubmit) s

/-! ### WDATA -/

/-- Table 8-3, checks 3 to 6: the refusal of a WDATA by the request in its slot, if it is refused. No index is accepted once the
frontier has reached the count. DESIGN CHOICE (assumption 34): the depth test counts the staged list alone, as R155 and R157 have it,
and not the buffer in work, as R158's sum would. -/
def wdataRefusal (s : State) (r : Request) (index : Nat) : Option Code :=
  if r.cancelPending then some .cancelling
  else if r.kind != .write then some .badField
  else if index ≠ r.frontier ∨ r.count ≤ index ∨ s.params.stageDepth ≤ r.staged.length then some .window
  else if s.free ≤ s.params.readReserve then some .noBuffer
  else none

/-- R156: a WDATA accepted. -/
def State.stage (s : State) (t : Tag) (index : Nat) (payload : List Byte) : State :=
  (s.setFree (s.free - 1)).modRequest t fun r =>
    let r1 := { r with staged := r.staged ++ [Buffer.mk t index payload], frontier := r.frontier + 1 }
    r1.evaluate fun h => { h with noData := noDataHold r1 }

/-- R154 to R156: the judgement of a WDATA. -/
def judgeWdata (m : WdataFields) (s : State) : Judged :=
  match tagOf m.tag with
  | none => refuse .badField s
  | some t =>
    if 255 < m.index.toNat then refuse .badField s
    else
      match s.request t with
      | none => refuse .noSuchTag s
      | some r =>
        match wdataRefusal s r m.index.toNat with
        | some c => refuse c s
        | none => accept (s.stage t m.index.toNat m.payload)

/-- WDATA. -/
def execWdata (seq : Byte) (m : Body WdataFields) (s : State) : Host.Outcome State Fault Refusal :=
  handle (.wdata seq m) 0x02 seq (judgeBody m judgeWdata) s

/-! ### CANCEL -/

/-- R92, R93: a CANCEL accepted for a request. -/
def State.cancel (s : State) (r : Request) : State :=
  match r.status with
  | .active => (s.modRequest r.tag fun q => { q with cancelPending := true }).cancelNow r.tag
  | _ => s.complete r.tag .cancelled none

/-- R91: the judgement of a CANCEL. -/
def judgeCancel (tag : Byte) (s : State) : Judged :=
  match tagOf tag with
  | none => refuse .badField s
  | some t =>
    match s.request t with
    | none => refuse .noSuchTag s
    | some r => if r.cancelPending then refuse .cancelling s else accept (s.cancel r)

/-- CANCEL. -/
def execCancel (seq : Byte) (m : Body Byte) (s : State) : Host.Outcome State Fault Refusal :=
  handle (.cancel seq m) 0x03 seq (judgeBody m judgeCancel) s

end Sys2Proof.Machine
end

