-- ==== Sys2Proof/Machine/StatusRecords.lean ====
section
/-! DEFINITION. STATUS (R176, R101): the three records of Tables 9-6 to 9-8. -/

namespace Sys2Proof.Machine

/-- The channel state and engaged tag of the part STATUS (R122). -/
def channelBytes (c : Option Engagement) : List Byte :=
  match c with
  | none => [0, 0xFF]
  | some e => [phaseByte e.phase, finByte e.tag]

/-- Table 9-6: the part status record. -/
def partRecord (s : State) : List Byte :=
  [byteOf s.free, byteOf s.table.length] ++ byteOf s.table.length :: s.admissionList.map finByte ++ channelBytes s.chan ++
    [byteOf s.spinningCount, byteOf s.risingCount] ++ byteOf s.waitList.length :: s.waitList.map finByte ++
    le16Nat s.notice.checkFailures ++ le16Nat s.notice.lengthErrors ++ le16Nat s.notice.gapTimeouts ++
    le16Nat s.notice.overruns

/-- A duration in whole ms, rounded down. DESIGN CHOICE. -/
def wholeMs (us : Nat) : Nat := us / 1000

/-- The idle time remaining (R33, Table 9-7): all ones while the timer is stopped. -/
def idleRemaining (now : Nat) : Option Nat → List Byte
  | none => [0xFF, 0xFF, 0xFF, 0xFF]
  | some deadline => le32Nat (wholeMs (deadline - now))

/-- An arm's cylinder, all ones when absent (R175). -/
def armCylinderBytes (a : Arm) : List Byte :=
  match a.cylinder with
  | none => [0xFF, 0xFF]
  | some c => le16Nat c

/-- Geometry, zero when absent (R176). -/
def geometryBytes : Option Geometry → List Byte
  | none => [0, 0, 0, 0]
  | some g => le16Nat g.cylinders ++ [byteOf g.surfaces, byteOf g.sectors]

/-- The tracker's part of the spindle status (R52): c is 0 while UNTRACKED, an absent period is 0. -/
def trackerBytes (t : Tracker) : List Byte :=
  [flagByte t.tracked, if t.tracked then byteOf t.sector else 0, byteOf t.errors] ++ le32Nat (t.period.getD 0)

/-- Table 9-7: a spindle's status record. -/
def spindleRecord (s : State) (p : Port) : List Byte :=
  let r := s.spindle p
  [stateByte r.state, causeByte r.cause] ++ geometryBytes r.geometry ++
    [flagByte r.pinned, flagByte r.respin, flagByte r.lines.wpr] ++ trackerBytes r.tracker ++
    armByte r.arm :: armCylinderBytes r.arm ++ [optFinByte r.arm.owner, byteOf (s.requestCount p)] ++
    idleRemaining s.now r.idleTimer

/-- R89: a request's age in ms, held at 4,294,967,295. -/
def requestAge (now : Nat) (r : Request) : Nat := min 4294967295 (wholeMs (now - r.admitted))

/-- The fill word of a request status record; what stands there when it is absent is a free value. -/
def fillBytes : Option Word → List Byte
  | some w => 1 :: le32 w
  | none => 0 :: le32 Config.absentFillWord

/-- The first suspect index of a request status record; what stands there when it is absent is a free value. -/
def suspectIndexBytes : Option Nat → List Byte
  | some n => 1 :: le16Nat n
  | none => 0 :: le16 Config.absentSuspectIndex

/-- The staging part of a request status record: zero but for a WRITE. -/
def stagingBytes (r : Request) : List Byte :=
  match r.kind with
  | .write => le16Nat r.frontier ++ byteOf r.staged.length :: r.staged.flatMap fun b => le16Nat b.index
  | _ => [0, 0, 0]

/-- Table 9-8: a request's status record. -/
def requestRecord (s : State) (r : Request) : List Byte :=
  [finByte r.tag, kindByte r.kind, finByte r.spindle, flagsByte r.flags] ++ addrBytes r.start ++ le16Nat r.count ++
    fillBytes r.fill ++ [statusByte r.status, holdsByte r.holds] ++ addrBytes r.next ++ le16Nat r.done ++
    le16Nat r.suspects ++ suspectIndexBytes r.firstSuspect ++ [byteOf r.retries, byteOf r.budget] ++
    [flagByte r.overdue, flagByte r.cancelPending] ++ le32Nat (requestAge s.now r) ++ stagingBytes r

/-- R176: selector 0. -/
def judgeStatusPart (s : State) : Judged := ⟨.ok, partRecord s, s⟩

/-- R176: selector 1. -/
def judgeStatusSpindle (number : Byte) (s : State) : Judged :=
  match portOf number with
  | none => refuse .badField s
  | some p => ⟨.ok, spindleRecord s p, s⟩

/-- R176, R101: selector 2. -/
def judgeStatusRequest (number : Byte) (s : State) : Judged :=
  match tagOf number with
  | none => refuse .badField s
  | some t =>
    match s.request t with
    | none => refuse .noSuchTag s
    | some r => ⟨.ok, requestRecord s r, s⟩

/-- STATUS of the part. -/
def execStatusPart (seq number : Byte) (s : State) : Host.Outcome State Fault Refusal :=
  handle (.statusPart seq number) 0x07 seq judgeStatusPart s

/-- STATUS of a spindle. -/
def execStatusSpindle (seq number : Byte) (s : State) : Host.Outcome State Fault Refusal :=
  handle (.statusSpindle seq number) 0x07 seq (judgeStatusSpindle number) s

/-- STATUS of a request. -/
def execStatusRequest (seq number : Byte) (s : State) : Host.Outcome State Fault Refusal :=
  handle (.statusRequest seq number) 0x07 seq (judgeStatusRequest number) s

end Sys2Proof.Machine
end

