-- ==== Sys2Proof/Machine/Timers.lean ====
section
/-! DEFINITION. The expiries of the Spindle Manager's timers (R28, R31, R34) and of age timers (R89). An expiry happens at the
timer's deadline, and only while the timer runs. -/

namespace Sys2Proof.Machine

/-- R28: the spin-up timer at its deadline. -/
def State.spinUpTimeout (s : State) (p : Port) : State :=
  match (s.spindle p).state, (s.spindle p).spinUpTimer with
  | .spinningUp, some deadline => (s.clockTo deadline).enterFaulted p .spinupTimeout
  | _, _ => s

/-- SPIN_UP_TIMER_EXPIRY. -/
def execSpinUpTimerExpiry (p : Port) (s : State) : Host.Outcome State Fault Refusal := event s fun u => u.spinUpTimeout p

/-- R31: the spin-down timer at its deadline. -/
def State.spinDownTimeout (s : State) (p : Port) : State :=
  match (s.spindle p).state, (s.spindle p).spinDownTimer with
  | .spinningDown, some deadline => (s.clockTo deadline).enterFaulted p .spindownTimeout
  | _, _ => s

/-- SPIN_DOWN_TIMER_EXPIRY. -/
def execSpinDownTimerExpiry (p : Port) (s : State) : Host.Outcome State Fault Refusal := event s fun u => u.spinDownTimeout p

/-- R34: the idle timer at its deadline. DESIGN CHOICE (assumption 33): the expiry is taken whatever the arm does, a seek without owner
among it, as R34, R69 and R66's last sentence have it and R66's sentence before that denies. -/
def State.idleTimeout (s : State) (p : Port) : State :=
  match (s.spindle p).state, (s.spindle p).idleTimer with
  | .ready, some deadline => (s.clockTo deadline).enterSpinningDown p
  | _, _ => s

/-- IDLE_TIMER_EXPIRY. -/
def execIdleTimerExpiry (p : Port) (s : State) : Host.Outcome State Fault Refusal := event s fun u => u.idleTimeout p

/-- R89: a request whose age has reached the limit. -/
def Request.age (r : Request) : Request := { r with overdue := true, ageTimer := none }

/-- R89: the age timer of the request in a slot at its deadline. -/
def State.ageTimeout (s : State) (t : Tag) : State :=
  match (s.request t).bind (·.ageTimer) with
  | none => s
  | some deadline => (s.clockTo deadline).modRequest t Request.age

/-- AGE_TIMER_EXPIRY. -/
def execAgeTimerExpiry (t : Tag) (s : State) : Host.Outcome State Fault Refusal := event s fun u => u.ageTimeout t

end Sys2Proof.Machine
end

