-- ==== Sys2Proof/Machine/UnitControl.lean ====
section
/-! DEFINITION. The UNITCTL actions (R17 to R22). -/

namespace Sys2Proof.Machine

/-- R17: an action of a spindle, refused BAD_FIELD when the spindle number lies outside 0 to 7. -/
def judgeUnit (spindle : Byte) (act : Port → State → Judged) (s : State) : Judged :=
  match portOf spindle with
  | none => refuse .badField s
  | some p => act p s

/-- R18: a CONFIGURE accepted: the geometry is stored and the spindle goes to PARKED or ABSENT as PRES stands. A state that does
not change posts nothing (R186). -/
def State.configure (s : State) (p : Port) (g : Geometry) : State :=
  let s1 := s.modSpindle p fun r => { r with geometry := some g }
  let st := (s1.spindle p).restState
  if (s1.spindle p).state = st then s1 else s1.enterState p st

/-- R18: the judgement of a CONFIGURE. -/
def judgeConfigure (g : Geometry) (p : Port) (s : State) : Judged :=
  if !g.legal then refuse .badField s
  else if s.requestCount p ≠ 0 then refuse .busy s
  else
    match (s.spindle p).state with
    | .unconfigured => accept (s.configure p g)
    | .absent => accept (s.configure p g)
    | .parked => accept (s.configure p g)
    | _ => refuse .wrongState s

/-- CONFIGURE. -/
def execConfigure (seq spindle : Byte) (cylinders : Half) (surfaces sectors : Byte) (s : State) :
    Host.Outcome State Fault Refusal :=
  handle (.configure seq spindle cylinders surfaces sectors) 0x04 seq
    (judgeUnit spindle (judgeConfigure ⟨cylinders.toNat, surfaces.toNat, sectors.toNat⟩)) s

/-- R19: a DECONFIGURE accepted. -/
def State.deconfigure (s : State) (p : Port) : State :=
  let s1 := s.modSpindle p fun r => { r with geometry := none, cause := none }
  (s1.setActivity (s1.activity.filter (· != p))).enterState p .unconfigured

/-- R19: the judgement of a DECONFIGURE. -/
def judgeDeconfigure (p : Port) (s : State) : Judged :=
  if s.requestCount p ≠ 0 then refuse .busy s
  else
    match (s.spindle p).state with
    | .parked => accept (s.deconfigure p)
    | .absent => accept (s.deconfigure p)
    | .faulted => accept (s.deconfigure p)
    | _ => refuse .wrongState s

/-- DECONFIGURE. -/
def execDeconfigure (seq spindle : Byte) (s : State) : Host.Outcome State Fault Refusal :=
  handle (.deconfigure seq spindle) 0x04 seq (judgeUnit spindle judgeDeconfigure) s

/-- R20: the pinned flag set. -/
def State.pin (s : State) (p : Port) : State := s.modSpindle p fun r => { r with pinned := true }

/-- R20: the judgement of a SPIN_UP. -/
def judgeSpinUp (p : Port) (s : State) : Judged :=
  match (s.spindle p).state with
  | .unconfigured => refuse .noSpindle s
  | .absent => refuse .spindleAbsent s
  | .faulted => refuse .spindleFaulted s
  | .parked => accept ((s.pin p).joinWait p)
  | .spinWait => accept (s.pin p)
  | .spinningUp => accept (s.pin p)
  | .ready => accept ((s.pin p).modSpindle p fun r => { r with idleTimer := none })
  | .spinningDown => accept ((s.pin p).modSpindle p fun r => { r with respin := true })

/-- SPIN_UP. -/
def execSpinUp (seq spindle : Byte) (s : State) : Host.Outcome State Fault Refusal :=
  handle (.spinUp seq spindle) 0x04 seq (judgeUnit spindle judgeSpinUp) s

/-- R21: the pinned flag cleared. -/
def State.unpin (s : State) (p : Port) : State := s.modSpindle p fun r => { r with pinned := false }

/-- R21: the judgement of a SPIN_DOWN. -/
def judgeSpinDown (p : Port) (s : State) : Judged :=
  if s.requestCount p ≠ 0 then refuse .busy s
  else
    match (s.spindle p).state with
    | .unconfigured => refuse .wrongState s
    | .absent => refuse .wrongState s
    | .faulted => refuse .wrongState s
    | .parked => accept (s.unpin p)
    | .spinWait => accept ((s.unpin p).enterState p .parked)
    | .spinningUp => accept ((s.unpin p).enterSpinningDown p)
    | .ready => accept ((s.unpin p).enterSpinningDown p)
    | .spinningDown => accept ((s.unpin p).modSpindle p fun r => { r with respin := false })

/-- SPIN_DOWN. -/
def execSpinDown (seq spindle : Byte) (s : State) : Host.Outcome State Fault Refusal :=
  handle (.spinDown seq spindle) 0x04 seq (judgeUnit spindle judgeSpinDown) s

/-- R22: a CLEAR_FAULT accepted. -/
def State.clearFault (s : State) (p : Port) : State :=
  let s1 := s.modSpindle p fun r => { r with cause := none }
  s1.enterState p (s1.spindle p).restState

/-- R22: the judgement of a CLEAR_FAULT. -/
def judgeClearFault (p : Port) (s : State) : Judged :=
  match (s.spindle p).state with
  | .faulted => accept (s.clearFault p)
  | _ => refuse .wrongState s

/-- CLEAR_FAULT. -/
def execClearFault (seq spindle : Byte) (s : State) : Host.Outcome State Fault Refusal :=
  handle (.clearFault seq spindle) 0x04 seq (judgeUnit spindle judgeClearFault) s

end Sys2Proof.Machine
end

