-- ==== Sys2Proof/Machine/Dispatch.lean ====
section
/-! DEFINITION. The meaning of each command, one arm per row of spec/opcode_table.json. -/

namespace Sys2Proof.Machine

def exec (i : Instr) (s : State) : Host.Outcome State Fault Refusal :=
  match i with
  | .submit seq m => Sys2Proof.Machine.execSubmit seq m s
  | .wdata seq m => Sys2Proof.Machine.execWdata seq m s
  | .cancel seq m => Sys2Proof.Machine.execCancel seq m s
  | .configure seq spindle cylinders surfaces sectors => Sys2Proof.Machine.execConfigure seq spindle cylinders surfaces sectors s
  | .deconfigure seq spindle => Sys2Proof.Machine.execDeconfigure seq spindle s
  | .spinUp seq spindle => Sys2Proof.Machine.execSpinUp seq spindle s
  | .spinDown seq spindle => Sys2Proof.Machine.execSpinDown seq spindle s
  | .clearFault seq spindle => Sys2Proof.Machine.execClearFault seq spindle s
  | .setpSpinLimit seq value => Sys2Proof.Machine.execSetpSpinLimit seq value s
  | .setpSurgeLimit seq value => Sys2Proof.Machine.execSetpSurgeLimit seq value s
  | .setpSpinupTimeout seq value => Sys2Proof.Machine.execSetpSpinupTimeout seq value s
  | .setpSpindownTimeout seq value => Sys2Proof.Machine.execSetpSpindownTimeout seq value s
  | .setpIdleTimeout seq value => Sys2Proof.Machine.execSetpIdleTimeout seq value s
  | .setpSeekTimeout seq value => Sys2Proof.Machine.execSetpSeekTimeout seq value s
  | .setpRevLimit seq value => Sys2Proof.Machine.execSetpRevLimit seq value s
  | .setpRetryLimit seq value => Sys2Proof.Machine.execSetpRetryLimit seq value s
  | .setpBurstLimit seq value => Sys2Proof.Machine.execSetpBurstLimit seq value s
  | .setpAgeLimit seq value => Sys2Proof.Machine.execSetpAgeLimit seq value s
  | .setpStageDepth seq value => Sys2Proof.Machine.execSetpStageDepth seq value s
  | .setpReadReserve seq value => Sys2Proof.Machine.execSetpReadReserve seq value s
  | .setpTrackFaultLimit seq value => Sys2Proof.Machine.execSetpTrackFaultLimit seq value s
  | .getp seq m => Sys2Proof.Machine.execGetp seq m s
  | .statusPart seq number => Sys2Proof.Machine.execStatusPart seq number s
  | .statusSpindle seq number => Sys2Proof.Machine.execStatusSpindle seq number s
  | .statusRequest seq number => Sys2Proof.Machine.execStatusRequest seq number s
  | .echo seq body => Sys2Proof.Machine.execEcho seq body s
  | .unknownKind kind seq body => Sys2Proof.Machine.execUnknownKind kind seq body s
  | .restart seq body => Sys2Proof.Machine.execRestart seq body s
  | .frameReceived kind seq body check => Sys2Proof.Machine.execFrameReceived kind seq body check s
  | .lengthError length => Sys2Proof.Machine.execLengthError length s
  | .gapTimeout => Sys2Proof.Machine.execGapTimeout s
  | .frameTransmissionEnd => Sys2Proof.Machine.execFrameTransmissionEnd s
  | .rstnAsserted => Sys2Proof.Machine.execRstnAsserted s
  | .hardwareReset => Sys2Proof.Machine.execHardwareReset s
  | .presFalling p => Sys2Proof.Machine.execPresFalling p s
  | .presRising p => Sys2Proof.Machine.execPresRising p s
  | .spunChange p level => Sys2Proof.Machine.execSpunChange p level s
  | .ufltRising p => Sys2Proof.Machine.execUfltRising p s
  | .wprLevelChange p level => Sys2Proof.Machine.execWprLevelChange p level s
  | .atnRising p => Sys2Proof.Machine.execAtnRising p s
  | .sectorMark p => Sys2Proof.Machine.execSectorMark p s
  | .indexMark p moment => Sys2Proof.Machine.execIndexMark p moment s
  | .formatSlotWritten => Sys2Proof.Machine.execFormatSlotWritten s
  | .headerRead slot read => Sys2Proof.Machine.execHeaderRead slot read s
  | .dataFieldEnd read => Sys2Proof.Machine.execDataFieldEnd read s
  | .skd p => Sys2Proof.Machine.execSkd p s
  | .ske p => Sys2Proof.Machine.execSke p s
  | .motionTimerExpiry p => Sys2Proof.Machine.execMotionTimerExpiry p s
  | .spinUpTimerExpiry p => Sys2Proof.Machine.execSpinUpTimerExpiry p s
  | .spinDownTimerExpiry p => Sys2Proof.Machine.execSpinDownTimerExpiry p s
  | .idleTimerExpiry p => Sys2Proof.Machine.execIdleTimerExpiry p s
  | .ageTimerExpiry t => Sys2Proof.Machine.execAgeTimerExpiry t s
  | .frameBegun => Sys2Proof.Machine.execFrameBegun s
  | .messageRefusedBadField kind seq body => Sys2Proof.Machine.execMessageRefusedBadField kind seq body s

end Sys2Proof.Machine
end

