-- ==== Sys2Proof/Safety.lean ====
section
/-! DEFINITION. The terms of claims: the tables of the manual as lists, and what every state between events satisfies, each
invariant with the rules it comes from. -/

namespace Sys2Proof.Machine

/-! ### Tables -/

/-- Table 9-9: each parameter's id, the name it goes by in the model, and its range, lowest and highest; IDLE_TIMEOUT may also be
0. -/
def paramRows : List (Byte × ParamId × Nat × Nat) :=
  [(1, .spinLimit, 1, 8), (2, .surgeLimit, 1, 4), (3, .spinupTimeout, 5, 60), (4, .spindownTimeout, 5, 60),
   (5, .idleTimeout, 10, 3600), (6, .seekTimeout, 50, 2000), (7, .revLimit, 1, 7), (8, .retryLimit, 0, 7),
   (9, .burstLimit, 1, 256), (10, .ageLimit, 100, 60000), (11, .stageDepth, 1, 16), (12, .readReserve, 0, 8),
   (13, .trackFaultLimit, 1, 15)]

/-- The SETP command of a parameter. -/
def setpInstr (id : ParamId) (seq : Byte) (value : Word) : Instr :=
  match id with
  | .spinLimit => .setpSpinLimit seq value
  | .surgeLimit => .setpSurgeLimit seq value
  | .spinupTimeout => .setpSpinupTimeout seq value
  | .spindownTimeout => .setpSpindownTimeout seq value
  | .idleTimeout => .setpIdleTimeout seq value
  | .seekTimeout => .setpSeekTimeout seq value
  | .revLimit => .setpRevLimit seq value
  | .retryLimit => .setpRetryLimit seq value
  | .burstLimit => .setpBurstLimit seq value
  | .ageLimit => .setpAgeLimit seq value
  | .stageDepth => .setpStageDepth seq value
  | .readReserve => .setpReadReserve seq value
  | .trackFaultLimit => .setpTrackFaultLimit seq value

/-- Whether a value lies within Table 9-9's range of a parameter. -/
def inTable99 (id : ParamId) (v : Nat) : Prop :=
  (id = .idleTimeout ∧ v = 0) ∨ ∃ b lo hi, (b, id, lo, hi) ∈ paramRows ∧ lo ≤ v ∧ v ≤ hi

/-! ### Terms of the statements -/

/-- A message refused with a code (R169, R170): its frame leaves the inbound queue, its REPLY joins the reply queue, the outbound
arbiter serves, and nothing else changes. -/
def Refused (i : Instr) (s : State) (kind seq : Byte) (code : Code) : Prop :=
  exec i s = .next (serve s.popInbound (s.popInbound.pushReply kind seq code []))

/-- A message accepted with the effects that lead to `v` (R169, R170): the end of the event, then the REPLY OK, then the outbound
arbiter. -/
def Accepted (i : Instr) (s : State) (kind seq : Byte) (v : State) : Prop :=
  exec i s = .next (serve s.popInbound ((finish s.popInbound v).pushReply kind seq .ok []))

/-- An event taken with the effects that lead to `v`: the end of the event, then the outbound arbiter. -/
def Taken (i : Instr) (s v : State) : Prop := exec i s = .next (settle s v)

/-- R84: a request with its hold reasons evaluated to these; an ACTIVE request's are not evaluated. -/
def Request.withHolds (r : Request) (h : Holds) : Request :=
  if r.status = .active then r
  else { r with holds := h, status := if h.spindle || h.barrier || h.noData || h.noBuffer then .held else .queued }

/-- R84: the request of a spindle with SPINDLE evaluated; a request of another spindle as it stands. -/
def Request.spindleEvaluated (p : Port) (held : Bool) (r : Request) : Request :=
  if r.spindle = p then r.withHolds { r.holds with spindle := held } else r

/-- R160: a request after some buffers have returned: with none, as it stands. -/
def Request.afterReturn (n : Nat) (r : Request) : Request :=
  if n ≠ 0 ∧ r.holds.noBuffer = true then r.withHolds { r.holds with noBuffer := false } else r

/-- A state change's event (Table 10-2), posted by R187 or R188. -/
def stateChangePosted (p : Port) (st : SpindleState) (cause : Option Cause) (events : List EventRecord) : List EventRecord :=
  postInto p ⟨true, false, false, false, false⟩ st cause events

/-- The buffers that a spindle's requests and its engagement hold (Table 8-1). -/
def State.buffersOn (s : State) (p : Port) : Nat :=
  (match s.chan with
    | some e => if e.spindle = p then e.buffers else 0
    | none => 0) +
    ((s.table.filter fun r => r.spindle == p).map fun r => r.staged.length).sum

/-- R98, Table 5-6: the DONE of a request as its record stands. -/
def doneOf (r : Request) (o : Outcome) (cause : Option Cause) (failing : Option Addr) : StreamEntry :=
  .done ⟨r.tag, o, r.done, r.next, r.retries, r.suspects, if r.suspects = 0 then none else r.firstSuspect, cause, failing⟩

/-- R76: a SUBMIT none of whose fields is illegal on its face. -/
def SubmitLegal (m : SubmitFields) : Prop :=
  m.tag.toNat ≤ 31 ∧ 1 ≤ m.kind.toNat ∧ m.kind.toNat ≤ 4 ∧ m.spindle.toNat ≤ 7 ∧
    (if m.kind.toNat = 4 then m.count.toNat = 0 else 1 ≤ m.count.toNat ∧ m.count.toNat ≤ 256) ∧ m.flags.toNat < 32 ∧
    (m.flags.getLsbD 2 = true → m.kind.toNat = 1 ∨ m.kind.toNat = 3) ∧ (m.flags.getLsbD 3 = true → m.kind.toNat = 2) ∧
    (m.fill.isSome = true → m.kind.toNat = 4)

/-- R7 to R9, R78: the run a SUBMIT names fits a geometry. -/
def SubmitFits (m : SubmitFields) (g : Geometry) : Prop :=
  m.cylinder.toNat < g.cylinders ∧ m.surface.toNat < g.surfaces ∧ m.sector.toNat < g.sectors ∧
    (if m.kind.toNat = 4 then m.sector.toNat = 0
    else (m.cylinder.toNat * g.surfaces + m.surface.toNat) * g.sectors + m.sector.toNat + m.count.toNat ≤
      g.cylinders * g.surfaces * g.sectors)

/-- R83 to R85, R87: the hold reasons a request is evaluated to, behind these older requests of the table. -/
def Request.reasons (r : Request) (spindleHeld noBuffer : Bool) (older : List Request) : Holds where
  spindle := spindleHeld
  barrier := older.any fun q => q.spindle == r.spindle && (r.flags.barrier || q.flags.barrier)
  noData := r.kind == .write && r.staged.isEmpty
  noBuffer := noBuffer

/-- R88: the requests that remain, in the admission list's order, with BARRIER evaluated on one spindle. -/
def barriersEvaluated (p : Port) (table : List Request) : List Request :=
  (List.range table.length).zipWith
    (fun k r =>
      if r.spindle = p then
        r.withHolds { r.holds with
          barrier := (table.take k).any fun q => q.spindle == p && (r.flags.barrier || q.flags.barrier) }
      else r) table

/-- R8: the address after an address on a spindle. -/
def State.addressAfter (s : State) (p : Port) (a : Addr) : Addr :=
  match (s.spindle p).geometry with
  | none => a
  | some g => g.successor a

/-- R133, R74: the engaged request with one sector more done. -/
def State.withSectorDone (s : State) (t : Tag) : State :=
  { s with
    table := s.table.map fun r =>
      if r.tag = t then
        { r with
          done := r.done + 1
          next := s.addressAfter r.spindle r.next
          budget := if r.flags.noRetry then 0 else s.params.retryLimit }
      else r }

/-- R74: the table with one retry spent by a request. -/
def retrySpent (t : Tag) (table : List Request) : List Request :=
  table.map fun r => if r.tag = t then { r with budget := r.budget - 1, retries := min 255 (r.retries + 1) } else r

/-- R145, R136, R149: the channel returned to IDLE with its buffers in the free pool. -/
def State.channelClosed (s : State) (e : Engagement) : State :=
  { s with chan := none, free := s.free + e.buffers, table := s.table.map (Request.afterReturn e.buffers) }

/-- R113: a candidate for the channel. -/
def State.IsCandidate (s : State) (r : Request) : Prop :=
  r.status = .queued ∧ (s.spindle r.spindle).state = .ready ∧ (s.spindle r.spindle).tracker.tracked = true ∧
    (s.spindle r.spindle).arm = .settled r.next.cylinder

/-- R54, R116: the rotational distance of a request's target sector, sector 0 for FORMAT. -/
def State.slotsAway (s : State) (r : Request) : Nat :=
  rotationalDistance (s.spindle r.spindle).sectors (s.spindle r.spindle).tracker.sector
    (if r.kind = .format then 0 else r.next.sector)

/-- R115: one candidate before another by distance, then by spindle number. -/
def State.Nearer (s : State) (r q : Request) : Prop :=
  s.slotsAway r < s.slotsAway q ∨ (s.slotsAway r = s.slotsAway q ∧ r.spindle < q.spindle)

/-- R124: the state once the channel has engaged a request. -/
def State.engaged (s : State) (r : Request) : State :=
  { s with
    chan := some {
      tag := r.tag, spindle := r.spindle, surface := r.next.surface, index := r.done,
      target := if r.kind = .format then ⟨r.next.cylinder, r.next.surface, 0⟩ else r.next,
      burst := 0, searchIndex := 0, searchMarks := 0, slotMarked := false, lastJudged := false, pending := [], deferred := none,
      phase := if r.kind = .format then .formatWait else .search }
    table := s.table.map fun q => if q.tag = r.tag then { q with status := .active } else q }

/-- R9, R122: the address at an index of a request's run. -/
def State.addressOfIndex (s : State) (r : Request) (index : Nat) : Addr :=
  match (s.spindle r.spindle).geometry with
  | none => r.start
  | some g => Nat.repeat g.successor index r.start

/-- R123, R127, R135: the channel's record as a search begins for an address. -/
def Engagement.searching (e : Engagement) (a : Addr) : Engagement :=
  { e with
    target := a, surface := a.surface, searchIndex := 0, searchMarks := 0, slotMarked := false, lastJudged := false
    phase := .search }

/-- R138: the state in which a verify pass has begun for the first pending entry, with an ending deferred. -/
def State.passBegun (s : State) (e : Engagement) (r : Request) (entry : PendingEntry) (ending : Ending) : State :=
  { s with chan := some { e with
      target := s.addressOfIndex r entry.index, searchIndex := 0, searchMarks := 0, slotMarked := false, lastJudged := false,
      deferred := some ending, phase := .pass none } }

/-- R97: the outcome of a completion that finds every sector done. -/
def Request.endOutcome (r : Request) : Outcome := if r.suspects = 0 then .complete else .completeSuspect

/-! ### What an event makes due -/

/-- R149, R181: the Channel has stopped in the event for a RESTART that waits. -/
def StopCause (before after : State) : Prop :=
  after.stopRequest = true ∧ after.chan = none ∧ ¬ (before.stopRequest = true ∧ before.chan = none)

/-- R26, R35, R42: what starts the Spindle Manager's evaluations: a join of the wait list; a spindle that leaves SPINNING_UP or the
spinning states, or reaches PARKED; a motion ended with the arm SETTLED; a READY spindle left without requests; another SPIN_LIMIT; a
greater SURGE_LIMIT. -/
def BudgetCause (before after : State) : Prop :=
  (∃ p : Port,
    (p ∈ after.waitList ∧ p ∉ before.waitList) ∨
    ((before.spindle p).state = .spinningUp ∧ (after.spindle p).state ≠ .spinningUp) ∨
    ((before.spindle p).state.spinning = true ∧ (after.spindle p).state.spinning = false) ∨
    ((before.spindle p).state ≠ .parked ∧ (after.spindle p).state = .parked) ∨
    ((before.spindle p).arm.timer ≠ none ∧ ∃ c, (after.spindle p).arm = .settled c) ∨
    ((after.spindle p).state = .ready ∧ before.requestCount p ≠ 0 ∧ after.requestCount p = 0)) ∨
  before.params.spinLimit ≠ after.params.spinLimit ∨ before.params.surgeLimit < after.params.surgeLimit

/-- R106: what makes the Scheduler re-evaluate: a request admitted QUEUED or moved between HELD and QUEUED; one become overdue; one
completed; the Channel become IDLE; a change of a spindle's state, of an arm to or from SETTLED, or of the tracked flag of a READY
spindle; the choice hold cleared. -/
def ScheduleCause (before after : State) : Prop :=
  (before.table.filter fun r => r.status == .queued).map (·.tag) ≠ (after.table.filter fun r => r.status == .queued).map (·.tag) ∨
  (∃ r ∈ after.table, r.overdue = true ∧ ∀ q ∈ before.table, q.tag = r.tag → q.overdue = false) ∨
  (∃ q ∈ before.table, ∀ r ∈ after.table, r.tag ≠ q.tag) ∨ (before.chan ≠ none ∧ after.chan = none) ∨
  (∃ p : Port,
    (before.spindle p).state ≠ (after.spindle p).state ∨
    ¬ ((∃ c, (before.spindle p).arm = .settled c) ↔ ∃ c, (after.spindle p).arm = .settled c) ∨
    ((before.spindle p).tracker.tracked ≠ (after.spindle p).tracker.tracked ∧ (after.spindle p).state = .ready)) ∨
  (before.choiceHold = true ∧ after.choiceHold = false)

/-- R12, R13, R147, R150: what a write cut short leaves of the media. With the write gate closed nothing changes; otherwise the slot
being written is torn where the gate fell, counted from where it opened, and every other slot stands. Where it fell is a free value
(assumption 9). -/
def State.TearLeaves (s v : State) : Prop :=
  (s.writeGate = none → v.media = s.media ∧ v.freeUses = s.freeUses) ∧
  (∀ e w0 slot b, s.chan = some e → e.phase = .writeField w0 slot b →
    v.freeUses = s.freeUses + 1 ∧
    ∀ k, mediaRead v.media k =
      if k = placeKey e.spindle e.target.cylinder e.surface slot then
        tornSlot (mediaRead s.media k) (wordsOfBytes b.payload) w0 (24 + Config.gateFall s.freeUses)
      else mediaRead s.media k) ∧
  (∀ e, s.chan = some e → e.phase = .formatWrite true →
    v.freeUses = s.freeUses + 1 ∧
    ∀ k, mediaRead v.media k =
      if k = placeKey e.spindle e.target.cylinder e.surface e.index then
        tornFormatSlot (mediaRead s.media k) e.target (s.engagedFill e) (Config.gateFall s.freeUses)
      else mediaRead s.media k)

/-! ### Parameters -/

/-- Every parameter lies in its range (Table 9-9, R178). -/
def State.ParamsInRange (s : State) : Prop := ∀ id : ParamId, paramInRange (s.params.get id) id = true

/-! ### Spindles -/

/-- R25: a spindle is in the wait list exactly when its state is SPIN_WAIT, and the list holds it at most once. -/
def State.WaitListExact (s : State) : Prop :=
  s.waitList.Nodup ∧ ∀ p : Port, p ∈ s.waitList ↔ (s.spindle p).state = .spinWait

/-- R24: the spinning count and the rising count are within their limits. -/
def State.BudgetKept (s : State) : Prop :=
  s.spinningCount ≤ s.params.spinLimit ∧ s.risingCount ≤ s.params.surgeLimit

/-- R57: a spindle's arm is UNKNOWN exactly when the spindle is not READY. -/
def State.ArmExact (s : State) : Prop := ∀ p : Port, (s.spindle p).arm = .unknown ↔ (s.spindle p).state ≠ .ready

/-- R44, R51: outside the spinning states the tracker is cleared; c is 0 while UNTRACKED; the error count is within its limit. -/
def State.TrackersSound (s : State) : Prop :=
  ∀ p : Port,
    ((s.spindle p).state.spinning = false → (s.spindle p).tracker = .cleared) ∧
    ((s.spindle p).tracker.tracked = false → (s.spindle p).tracker.sector = 0) ∧
    (s.spindle p).tracker.errors ≤ s.params.trackFaultLimit

/-- R28, R31, R33: a spin-up timer runs exactly in SPINNING_UP, a spin-down timer exactly in SPINNING_DOWN, and an idle timer only
for a READY, unpinned spindle without requests. -/
def State.TimersSound (s : State) : Prop :=
  ∀ p : Port,
    ((s.spindle p).spinUpTimer.isSome = true ↔ (s.spindle p).state = .spinningUp) ∧
    ((s.spindle p).spinDownTimer.isSome = true ↔ (s.spindle p).state = .spinningDown) ∧
    ((s.spindle p).idleTimer.isSome = true →
      (s.spindle p).state = .ready ∧ (s.spindle p).pinned = false ∧ s.requestCount p = 0)

/-- Table 2-2: a fault cause is present exactly while FAULTED, a geometry exactly while configured and then a legal one. -/
def Spindle.FieldsMatchState (r : Spindle) : Prop :=
  (r.cause.isSome = true ↔ r.state = .faulted) ∧ (r.geometry.isSome = true ↔ r.state ≠ .unconfigured) ∧
    ∀ g, r.geometry = some g → g.legal = true

/-- R25 and Table 2-2 together. -/
def State.SpindlesConsistent (s : State) : Prop := s.WaitListExact ∧ ∀ p : Port, (s.spindle p).FieldsMatchState

/-- R30, R31, R39, R40: respin is set only while SPINNING_DOWN; pinned only in the states between SPIN_WAIT and the end of a
spin-down, and in SPINNING_DOWN only with respin. -/
def Spindle.FlagsMatchState (r : Spindle) : Prop :=
  (r.respin = true → r.state = .spinningDown) ∧
    (r.pinned = true →
      r.state = .spinWait ∨ r.state = .spinningUp ∨ r.state = .ready ∨ (r.state = .spinningDown ∧ r.respin = true))

/-- R25, R33 and the flags together. -/
def State.FlagsConsistent (s : State) : Prop :=
  s.WaitListExact ∧
    ∀ p : Port,
      (s.spindle p).FlagsMatchState ∧
        ((s.spindle p).idleTimer.isSome = true → (s.spindle p).state = .ready ∧ (s.spindle p).pinned = false)

/-- R18, R40: out of reset, a configured spindle is ABSENT exactly when its PRES is deasserted. -/
def State.PresenceExact (s : State) : Prop :=
  s.WaitListExact ∧
    (s.inReset = false →
      ∀ p : Port, (s.spindle p).configured = true →
        ((s.spindle p).state = .absent ↔ (s.spindle p).lines.pres = false))

/-- R32: the activity order holds each spindle at most once. -/
def State.ActivityOnce (s : State) : Prop := s.activity.Nodup

/-! ### Requests, buffers and the channel -/

/-- R72: a tag is in use by at most one request. -/
def State.TagsDistinct (s : State) : Prop := s.admissionList.Nodup

/-- The buffers in use (Table 8-1): staged, held by the channel, in the Stream, and in the RDATA frame in transmission or cut off. -/
def State.buffersInUse (s : State) : Nat :=
  s.stagedBuffers + (s.chan.map Engagement.buffers).getD 0 + s.streamBuffers +
    (if s.line.any (·.holdsBuffer) then 1 else 0) + (if s.cutOff then 1 else 0)

/-- R151: every one of the 24 buffers is free or in one place of Table 8-1, always; and the entry of an RDATA that was cut off holds a
buffer in reset alone (R184). -/
def State.BuffersAccounted (s : State) : Prop :=
  s.TagsDistinct ∧ s.free + s.buffersInUse = Config.bufferCount ∧ (s.cutOff = true → s.inReset = true)

/-- R82, R122: the engaged request is in the table, on the selected spindle, and it is the one ACTIVE request. -/
def State.EngagementExact (s : State) : Prop :=
  s.TagsDistinct ∧
    (∀ r ∈ s.table, r.status = .active ↔ s.chan.any (fun e => e.tag == r.tag) = true) ∧
    ∀ e, s.chan = some e → ∃ r ∈ s.table, r.tag = e.tag ∧ r.spindle = e.spindle

/-- R117, R124: the engaged request's spindle is READY. -/
def State.EngagedReady (s : State) : Prop :=
  s.WaitListExact ∧ s.EngagementExact ∧ s.TimersSound ∧ ∀ e, s.chan = some e → (s.spindle e.spindle).state = .ready

/-- R84: what a request's hold reasons are between events, when it is not ACTIVE: SPINDLE, BARRIER and NO_DATA as R83 computes
them, and HELD exactly with a reason. -/
def State.HoldsRight (s : State) (r : Request) : Prop :=
  r.holds.spindle = s.spindleHold r.spindle ∧ r.holds.barrier = barrierHold (s.olderThan r.tag) r ∧
    r.holds.noData = noDataHold r ∧ (r.status = .held ↔ r.holds.held = true)

/-- R83 to R85: the hold reasons of every request that is not ACTIVE are up to date. -/
def State.HoldsExact (s : State) : Prop :=
  s.EngagementExact ∧ ∀ r ∈ s.table, r.status ≠ .active → s.HoldsRight r

/-- R74, R153: a request's counts are within their sizes, with the parameters in range. -/
def State.CountsSound (s : State) : Prop :=
  s.ParamsInRange ∧ ∀ r ∈ s.table, r.retries ≤ 255 ∧ r.budget ≤ 7 ∧ r.staged.length ≤ 16

/-- R73, R153: a request's run: fewer sectors done than its count, its next address the address at index sectors done, its staged
indices consecutive and ending just below the frontier, the frontier at most the count; only a WRITE stages. -/
def State.RunSound (s : State) (r : Request) : Prop :=
  r.done < r.count ∧ r.next = s.addressOfIndex r r.done ∧ r.frontier ≤ r.count ∧ r.staged.length ≤ r.frontier ∧
    r.staged.map (·.index) = List.range' (r.frontier - r.staged.length) r.staged.length ∧
    (∀ b ∈ r.staged, b.tag = r.tag) ∧ (r.kind ≠ .write → r.frontier = 0)

/-- Table 7-1: whether a phase is one of the requests of a kind. -/
def Phase.isOf (ph : Phase) (k : Kind) : Prop :=
  match ph with
  | .search => k ≠ .format
  | .readField _ _ => k = .read
  | .writeField _ _ _ => k = .write
  | .verifyField _ _ => k = .verify
  | .pass _ => k = .write
  | .formatWait => k = .format
  | .formatWrite _ => k = .format

/-- R122, R124, R138, R153: the engaged request's run. The transfer index is sectors done plus the pending entries, whose indices are
consecutive from sectors done; the buffer in work carries the transfer index, and the staged list begins just above it; the target is
the address at the transfer index, and the first pending one in the verify pass, which alone has an ending deferred, and runs with
entries pending. -/
def State.EngagedRunSound (s : State) (e : Engagement) (r : Request) : Prop :=
  e.phase.isOf r.kind ∧ e.index = r.done + e.pending.length ∧ e.index ≤ r.count ∧
    e.pending.map (·.index) = List.range' r.done e.pending.length ∧
    (r.kind ≠ .write ∨ r.flags.verifyAfter = false → e.pending = []) ∧
    (r.kind = .write →
      r.frontier = e.index + (match e.phase with | .writeField _ _ _ => 1 | _ => 0) + r.staged.length) ∧
    (∀ w0 slot b, e.phase = .writeField w0 slot b → b.tag = e.tag ∧ b.index = e.index) ∧
    ((∃ reading, e.phase = .pass reading) →
      e.pending ≠ [] ∧ e.target = r.next ∧ e.deferred ≠ none ∧ (e.index = r.count → e.deferred = some .runEnd)) ∧
    ((∀ reading, e.phase ≠ .pass reading) →
      e.index < r.count ∧ e.deferred = none ∧ (r.kind ≠ .format → e.target = s.addressOfIndex r e.index))

/-- R73, R122, R153: every request's run is sound; a WRITE that is not engaged has its staged list begin at its next sector. -/
def State.RunsSound (s : State) : Prop :=
  s.EngagementExact ∧
    (∀ r ∈ s.table, s.RunSound r ∧ (r.kind = .write → r.status ≠ .active → r.frontier = r.done + r.staged.length)) ∧
    ∀ e r, s.chan = some e → s.request e.tag = some r → s.EngagedRunSound e r

/-- R181, R104, R149: choice hold and stop request are set exactly while a RESTART is in progress, and then the channel is
engaged. -/
def State.RestartSound (s : State) : Prop :=
  s.choiceHold = s.restart.isSome ∧ s.stopRequest = s.restart.isSome ∧ (s.restart.isSome = true → s.chan.isSome = true)

/-! ### Queues and records -/

/-- R167, R168: the inbound queue holds at most 4 frames, a frame that began with room still has it, and no frame in progress began
after the present moment. -/
def State.InboundBounded (s : State) : Prop :=
  s.inbound.length ≤ Config.inboundRoom ∧
    (∀ begun, s.parser = .frame true begun → s.inbound.length < Config.inboundRoom) ∧
    ∀ room begun, s.parser = .frame room begun → begun ≤ s.now

/-- R170, R182: the reply queue holds at most 4 replies, and keeps room for the REPLY of a RESTART in progress. -/
def State.RepliesBounded (s : State) : Prop :=
  s.replies.length ≤ Config.replyRoom ∧ (s.restart.isSome = true → s.replies.length < Config.replyRoom) ∧
    (s.stopRequest = true → s.restart.isSome = true)

/-- R169: the Stream never holds more than 64 DONE entries, counting those that the requests in the table may still add. -/
def State.DonesBounded (s : State) : Prop := s.TagsDistinct ∧ s.streamDones + s.table.length ≤ 64

/-- R185, R188: at most one event record per spindle, with a count of 1 to 255, and a cause only in FAULTED. -/
def State.EventsSound (s : State) : Prop :=
  (s.events.map (·.spindle)).Nodup ∧
    ∀ r ∈ s.events, 1 ≤ r.count ∧ r.count ≤ 255 ∧ (r.cause.isSome = true → r.stateNow = .faulted)

/-- R191: the notice counts are within 16 bits. -/
def State.NoticeSound (s : State) : Prop :=
  s.notice.checkFailures ≤ 65535 ∧ s.notice.lengthErrors ≤ 65535 ∧ s.notice.gapTimeouts ≤ 65535 ∧
    s.notice.overruns ≤ 65535

/-- The media list is in its one form. -/
def State.MediaSound (s : State) : Prop := mediaWf s.media = true

end Sys2Proof.Machine
end

