-- ==== Sys2Proof/WellFormed.lean ====
section
/-! DEFINITION. Which commands can come about: a body whose length is none of its kind's is truly of another length, a body fits a
frame (Table 9-1), a data field has 256 words (R5). -/

namespace Sys2Proof

/-- A frame body's length (Table 9-1). -/
def bodyFits (body : List Byte) : Bool := decide (body.length ≤ Config.maxBody)

/-- A SUBMIT's body. -/
def wellFormedSubmit : Body SubmitFields → Bool
  | .fields _ => true
  | .otherLength b => bodyFits b && b.length != 10 && b.length != 14

/-- A WDATA's body. -/
def wellFormedWdata : Body WdataFields → Bool
  | .fields m => m.payload.length == Config.payloadBytes
  | .otherLength b => bodyFits b && b.length != 3 + Config.payloadBytes

/-- A body of one byte. -/
def wellFormedByte : Body Byte → Bool
  | .fields _ => true
  | .otherLength b => bodyFits b && b.length != 1

/-- A UNITCTL body that names no action of R17 with that action's length. -/
def badUnitctl : List Byte → Bool
  | [_, action] => !(decide (2 ≤ action.toNat) && decide (action.toNat ≤ 5))
  | [_, action, _, _, _, _] => action != 1
  | _ => true

/-- A SETP body of another length, or with a parameter id that is none of Table 9-9. -/
def badSetp : List Byte → Bool
  | [id, _, _, _, _] => !(decide (1 ≤ id.toNat) && decide (id.toNat ≤ 13))
  | _ => true

/-- A STATUS body of another length, or with a selector that is none of Table 9-3. -/
def badStatus : List Byte → Bool
  | [selector, _] => decide (2 < selector.toNat)
  | _ => true

/-- The messages of the BAD_FIELD row: those of UNITCTL, SETP and STATUS that are none of their own rows. -/
def wellFormedRefused (kind : Byte) (body : List Byte) : Bool :=
  bodyFits body &&
    match kind.toNat with
    | 4 => badUnitctl body
    | 5 => badSetp body
    | 7 => badStatus body
    | _ => false

/-- The well-formed commands. -/
def Instr.wellFormed : Instr → Bool
  | .submit _ m => wellFormedSubmit m
  | .wdata _ m => wellFormedWdata m
  | .cancel _ m => wellFormedByte m
  | .configure _ _ _ _ _ => true
  | .deconfigure _ _ => true
  | .spinUp _ _ => true
  | .spinDown _ _ => true
  | .clearFault _ _ => true
  | .setpSpinLimit _ _ => true
  | .setpSurgeLimit _ _ => true
  | .setpSpinupTimeout _ _ => true
  | .setpSpindownTimeout _ _ => true
  | .setpIdleTimeout _ _ => true
  | .setpSeekTimeout _ _ => true
  | .setpRevLimit _ _ => true
  | .setpRetryLimit _ _ => true
  | .setpBurstLimit _ _ => true
  | .setpAgeLimit _ _ => true
  | .setpStageDepth _ _ => true
  | .setpReadReserve _ _ => true
  | .setpTrackFaultLimit _ _ => true
  | .getp _ m => wellFormedByte m
  | .statusPart _ _ => true
  | .statusSpindle _ _ => true
  | .statusRequest _ _ => true
  | .echo _ body => bodyFits body
  | .unknownKind kind _ body => bodyFits body && !(decide (1 ≤ kind.toNat) && decide (kind.toNat ≤ 9))
  | .restart _ body => bodyFits body
  | .frameReceived _ _ body _ => bodyFits body
  | .lengthError length => decide (Config.maxBody < length.toNat)
  | .gapTimeout => true
  | .frameTransmissionEnd => true
  | .rstnAsserted => true
  | .hardwareReset => true
  | .presFalling _ => true
  | .presRising _ => true
  | .spunChange _ _ => true
  | .ufltRising _ => true
  | .wprLevelChange _ _ => true
  | .atnRising _ => true
  | .sectorMark _ => true
  | .indexMark _ _ => true
  | .formatSlotWritten => true
  | .headerRead _ _ => true
  | .dataFieldEnd .recorded => true
  | .dataFieldEnd (.words data _) => data.length == Config.sectorWords
  | .skd _ => true
  | .ske _ => true
  | .motionTimerExpiry _ => true
  | .spinUpTimerExpiry _ => true
  | .spinDownTimerExpiry _ => true
  | .idleTimerExpiry _ => true
  | .ageTimerExpiry _ => true
  | .frameBegun => true
  | .messageRefusedBadField kind _ body => wellFormedRefused kind body

/-- The message commands, each the handling of a host frame. -/
def Instr.isMessage : Instr → Bool
  | .submit _ _ => true
  | .wdata _ _ => true
  | .cancel _ _ => true
  | .configure _ _ _ _ _ => true
  | .deconfigure _ _ => true
  | .spinUp _ _ => true
  | .spinDown _ _ => true
  | .clearFault _ _ => true
  | .setpSpinLimit _ _ => true
  | .setpSurgeLimit _ _ => true
  | .setpSpinupTimeout _ _ => true
  | .setpSpindownTimeout _ _ => true
  | .setpIdleTimeout _ _ => true
  | .setpSeekTimeout _ _ => true
  | .setpRevLimit _ _ => true
  | .setpRetryLimit _ _ => true
  | .setpBurstLimit _ _ => true
  | .setpAgeLimit _ _ => true
  | .setpStageDepth _ _ => true
  | .setpReadReserve _ _ => true
  | .setpTrackFaultLimit _ _ => true
  | .getp _ _ => true
  | .statusPart _ _ => true
  | .statusSpindle _ _ => true
  | .statusRequest _ _ => true
  | .echo _ _ => true
  | .unknownKind _ _ _ => true
  | .restart _ _ => true
  | .frameReceived _ _ _ _ => false
  | .lengthError _ => false
  | .gapTimeout => false
  | .frameTransmissionEnd => false
  | .rstnAsserted => false
  | .hardwareReset => false
  | .presFalling _ => false
  | .presRising _ => false
  | .spunChange _ _ => false
  | .ufltRising _ => false
  | .wprLevelChange _ _ => false
  | .atnRising _ => false
  | .sectorMark _ => false
  | .indexMark _ _ => false
  | .formatSlotWritten => false
  | .headerRead _ _ => false
  | .dataFieldEnd _ => false
  | .skd _ => false
  | .ske _ => false
  | .motionTimerExpiry _ => false
  | .spinUpTimerExpiry _ => false
  | .spinDownTimerExpiry _ => false
  | .idleTimerExpiry _ => false
  | .ageTimerExpiry _ => false
  | .frameBegun => false
  | .messageRefusedBadField _ _ _ => true

end Sys2Proof
end

