-- ==== Sys2Proof/Certificates/Slice0/Obligations.lean ====
section
/-! DEFINITION. The statements about the block, each with the rules it formalises. In a statement about a message, `s.popInbound`
is the state once the message's frame has left the inbound queue, `finish` is the end of the event at the Spindle Manager and the
Scheduler, `State.pushReply` appends the REPLY, and `serve` is the outbound arbiter. -/

open Sys2Proof Sys2Proof.Machine

/-! ### The machine -/

/-- The row's block interface: the command at the front of the queue is taken whole, with the queue's rest. -/
def Obligations.StepRunsFrontCommand : Prop :=
  ∀ (c : Instr) (s : State), step { s with pending := c :: s.pending } = exec c s

/-- Section 9.10 and the rules it names (R1, R12, R13, R16, R44, R57, R103, R104, R122, R150, R151, R177, R183): what hardware reset
leaves. The media stand but for a sector being written, which is torn where the gate fell (a free value, assumption 9).
The model's choices: it may come in any state (assumption 17); the line levels, the clock and the waiting commands stand (assumptions
2 and 5); the counts of order strobes go to 0 (assumption 18). -/
def Obligations.HardwareResetState : Prop :=
  ∀ s : State, ∃ t : State, exec .hardwareReset s = .next t ∧
    (∀ p : Port, t.spindle p =
      { state := .unconfigured, geometry := none, pinned := false, respin := false, cause := none, spinUpTimer := none,
        spinDownTimer := none, idleTimer := none, tracker := ⟨false, 0, 0, none, none⟩, arm := .unknown,
        orders := ⟨0, 0, 0⟩, lines := (s.spindle p).lines }) ∧
    t.waitList = [] ∧ t.activity = [] ∧ t.spinningCount = 0 ∧ t.risingCount = 0 ∧ t.table = [] ∧ t.choiceHold = false ∧
    t.chan = none ∧ t.stopRequest = false ∧ t.free = 24 ∧ t.inReset = false ∧ t.parser = .hunt ∧ t.inbound = [] ∧
    t.replies = [] ∧ t.stream = [] ∧ t.line = none ∧ t.cutOff = false ∧ t.partSeq = 0 ∧
    t.params = ⟨4, 1, 20, 30, 120, 500, 3, 2, 64, 2000, 8, 2, 3⟩ ∧ t.restart = none ∧ t.events = [] ∧
    t.notice = ⟨0, 0, 0, 0⟩ ∧ t.rtr = true ∧ (∀ p : Port, t.spen p = false) ∧ t.writeGate = none ∧
    t.pending = s.pending ∧ t.now = s.now ∧ s.TearLeaves t

/-- Section 9.10: while RSTn is asserted the device holds itself in reset: RTR and every SPEN are deasserted, and of all commands only
the release of RSTn changes more than the levels on the port lines.
The model's choices: at the assertion every record but the frames on the lines stands until the release (assumption 17), the buffer of
an RDATA cut off there is held until then (assumption 40), and the levels move with the lines meanwhile (assumption 6). -/
def Obligations.ResetHolds : Prop :=
  ∀ s : State,
    exec .rstnAsserted s =
      .next { s with inReset := true, parser := .hunt, line := none, cutOff := s.cutOff || s.line.any (·.holdsBuffer) } ∧
    (s.inReset = true → s.rtr = false ∧ ∀ p : Port, s.spen p = false) ∧
    ∀ (c : Instr) (t : State), s.inReset = true → c ≠ .rstnAsserted → c ≠ .hardwareReset → exec c s = .next t →
      t = { s with spindles := t.spindles } ∧ ∀ p : Port, ∃ l : Lines, t.spindle p = { s.spindle p with lines := l }

/-- R26, R35, R42, R106, R107, R114, R181: what the end of an event makes, each part exactly when the event has given cause: the
clearing step, the Spindle Manager's evaluations, and one re-evaluation of the Scheduler, which with the choice hold clear is the seek
choices of the eight arms and then the channel choice. And what it leaves alone; without a clearing step, of the requests it changes
the states and hold reasons only.
That the causes are read off the states before and after the event, and the order of the parts, are the model's (assumption 16). -/
def Obligations.EventEndFrame : Prop :=
  ∀ b a : State,
    (∃ c d : State,
      (StopCause b a →
        c = a.clearingStep (allPorts.filter fun p => b.requestCount p != 0 || a.requestCount p != 0)) ∧ (¬ StopCause b a → c = a) ∧
      (BudgetCause b c → d = c.evalBudget) ∧ (¬ BudgetCause b c → d = c) ∧
      (ScheduleCause b d → finish b a = d.reevaluate) ∧ (¬ ScheduleCause b d → finish b a = d) ∧
      (d.choiceHold = true → d.reevaluate = d) ∧
      (d.choiceHold = false →
        d.reevaluate = (([0, 1, 2, 3, 4, 5, 6, 7] : List Port).foldl State.chooseSeek d).chooseChannel)) ∧
    finish b a = { a with
      spindles := (finish b a).spindles, waitList := (finish b a).waitList, activity := (finish b a).activity,
      table := (finish b a).table, choiceHold := (finish b a).choiceHold, chan := (finish b a).chan,
      stopRequest := (finish b a).stopRequest, free := (finish b a).free, replies := (finish b a).replies,
      stream := (finish b a).stream, restart := (finish b a).restart, events := (finish b a).events,
      notice := (finish b a).notice } ∧
    (stopDone b a = false →
      finish b a = { a with
        spindles := (finish b a).spindles, waitList := (finish b a).waitList, table := (finish b a).table,
        chan := (finish b a).chan, events := (finish b a).events } ∧
      (finish b a).table.map (fun r => { r with status := .held, holds := ⟨false, false, false, false⟩ }) =
        a.table.map (fun r => { r with status := .held, holds := ⟨false, false, false, false⟩ }) ∧
      ∀ p : Port, ((finish b a).spindle p).geometry = (a.spindle p).geometry ∧
        ((finish b a).spindle p).lines = (a.spindle p).lines ∧ ((finish b a).spindle p).cause = (a.spindle p).cause ∧
        ((finish b a).spindle p).pinned = (a.spindle p).pinned)

/-! ### The host link -/

/-- R165 and Table 9-1: a frame on the line, and its check: with the sum of the bytes it covers it makes 0xFFFF. -/
def Obligations.FrameLayout : Prop :=
  ∀ (kind seq : Byte) (body : List Byte), body.length ≤ 1040 →
    frameBytes kind seq body =
      [0xB6, kind, seq, BitVec.ofNat 8 body.length, BitVec.ofNat 8 (body.length / 256)] ++ body ++
        [(frameCheck kind seq body).extractLsb' 0 8, (frameCheck kind seq body).extractLsb' 8 8] ∧
    (frameCheck kind seq body).toNat +
      (kind.toNat + seq.toNat + body.length % 256 + body.length / 256 + (body.map BitVec.toNat).sum) % 65536 = 65535

/-- R166 to R168: the receive side. A start byte in HUNT begins a frame, with room judged then; in FRAME it has no framing meaning; an
intact frame that began with room joins the tail of the inbound queue. The four causes of a discard are counted once each, the count
held at 65535; the parser returns to HUNT and no frame joins the queue. A byte comes at most 10 ms after the one before it, and a gap
timeout at least 10 ms after the start byte.
That any moments within that limit are allowed the bytes between is the model's choice (assumption 35). -/
def Obligations.FramesReceived : Prop :=
  ∀ s : State,
    (s.inReset = false → s.parser = .hunt →
      exec .frameBegun s = .next { s with parser := .frame (decide (s.inbound.length < 4)) s.now }) ∧
    (∀ room begun, s.parser = .frame room begun → exec .frameBegun s = .next s) ∧
    (∀ kind seq body check, s.parser = .hunt → exec (.frameReceived kind seq body check) s = .next s) ∧
    (s.parser = .hunt → exec .gapTimeout s = .next s ∧ ∀ length, exec (.lengthError length) s = .next s) ∧
    (s.inReset = false → ∀ begun : Nat,
      (∀ room kind seq body check, s.parser = .frame room begun → begun + (body.length + 6) * 10000 < s.now →
        exec (.frameReceived kind seq body check) s = .next s) ∧
      (∀ kind seq body, s.parser = .frame true begun → body.length ≤ 1040 → s.now ≤ begun + (body.length + 6) * 10000 →
        exec (.frameReceived kind seq body (frameCheck kind seq body)) s =
          .next { s with parser := .hunt, inbound := s.inbound ++ [⟨kind, seq, body⟩] }) ∧
      (∀ kind seq body check, s.parser = .frame false begun → body.length ≤ 1040 →
        s.now ≤ begun + (body.length + 6) * 10000 →
        exec (.frameReceived kind seq body check) s = .next (serve s { s with
          parser := .hunt, notice := { s.notice with overruns := min 65535 (s.notice.overruns + 1) } })) ∧
      (∀ kind seq body check, s.parser = .frame true begun → body.length ≤ 1040 →
        s.now ≤ begun + (body.length + 6) * 10000 → check ≠ frameCheck kind seq body →
        exec (.frameReceived kind seq body check) s = .next (serve s { s with
          parser := .hunt, notice := { s.notice with checkFailures := min 65535 (s.notice.checkFailures + 1) } })) ∧
      (∀ (room : Bool) (length : Half), s.parser = .frame room begun → 1040 < length.toNat →
        (begun + 40000 < s.now → exec (.lengthError length) s = .next s) ∧
        (s.now ≤ begun + 40000 → exec (.lengthError length) s = .next (serve s { s with
          parser := .hunt, notice := { s.notice with lengthErrors := min 65535 (s.notice.lengthErrors + 1) } }))) ∧
      (∀ room : Bool, s.parser = .frame room begun →
        exec .gapTimeout s = .next (serve s { s with
          now := max s.now (begun + 10000), parser := .hunt
          notice := { s.notice with gapTimeouts := min 65535 (s.notice.gapTimeouts + 1) } })))

/-- R173, R161, R160: the end of a transmission frees the line for the arbiter; an RDATA's buffer returns, and the return lifts
NO_BUFFER from every request that is not ACTIVE. -/
def Obligations.TransmissionEnds : Prop :=
  ∀ s : State, s.inReset = false →
    (s.line = none → exec .frameTransmissionEnd s = .next s) ∧
    (∀ f, s.line = some f → f.holdsBuffer = false →
      exec .frameTransmissionEnd s = .next (State.arbitrate { s with line := none })) ∧
    (∀ f, s.line = some f → f.holdsBuffer = true → ∃ v : State, exec .frameTransmissionEnd s = .next (settle s v) ∧
      v = { s with line := none, free := s.free + 1, table := v.table } ∧
      v.table = s.table.map fun r =>
        if r.holds.noBuffer = true ∧ r.status ≠ .active then
          { r with
            holds := { r.holds with noBuffer := false }
            status := if r.holds.spindle || r.holds.barrier || r.holds.noData then .held else .queued }
        else r)

/-- R171 to R175, R191, R192 and Tables 9-4 and 9-5: the arbiter's choice at the end of an event: with a frame on the line none; with the
line idle, after a transmission's end or when a source has become non-empty, the first non-empty source in the order replies, notice,
events, Stream, whose head becomes the frame on the line with the next part sequence. Each frame's body, field by field, with the codes
and bits of its fields; an absent field is sent as zero.
That a source has become non-empty is read off the states before and after the event (model's, assumption 16). -/
def Obligations.ArbiterServes : Prop :=
  ∀ b a : State,
    (a.line.isSome = true → serve b a = a) ∧
    (a.line = none → b.line = none → sourceFilled b a = false → serve b a = a) ∧
    (a.line = none → (b.line.isSome = true ∨ sourceFilled b a = true) →
      (∀ r rest, a.replies = r :: rest →
        serve b a = { a with
          replies := rest, partSeq := a.partSeq + 1
          line := some ⟨0x81, a.partSeq,
            [r.kind, r.seq, codeByte r.code, byteOf r.freeBuffers, byteOf r.freeSlots] ++ r.further, false⟩ }) ∧
      (a.replies = [] → a.notice ≠ ⟨0, 0, 0, 0⟩ →
        serve b a = { a with
          notice := ⟨0, 0, 0, 0⟩, partSeq := a.partSeq + 1
          line := some ⟨0x85, a.partSeq,
            le16Nat a.notice.checkFailures ++ le16Nat a.notice.lengthErrors ++ le16Nat a.notice.gapTimeouts ++
              le16Nat a.notice.overruns, false⟩ }) ∧
      (∀ e rest, a.replies = [] → a.notice = ⟨0, 0, 0, 0⟩ → a.events = e :: rest →
        serve b a = { a with
          events := rest, partSeq := a.partSeq + 1
          line := some ⟨0x84, a.partSeq,
            [byteOf e.spindle.val, eventSetByte e.set, stateByte e.stateNow, causeByte e.cause, byteOf e.count], false⟩ }) ∧
      (∀ buffer p addr suspect rest, a.replies = [] → a.notice = ⟨0, 0, 0, 0⟩ → a.events = [] →
        a.stream = .rdata buffer p addr suspect :: rest →
        serve b a = { a with
          stream := rest, partSeq := a.partSeq + 1
          line := some ⟨0x82, a.partSeq,
            [byteOf buffer.tag.val, byteOf p.val, byteOf buffer.index, if suspect then 1 else 0] ++
              le16Nat addr.cylinder ++ [byteOf addr.surface, byteOf addr.sector] ++ buffer.payload, true⟩ }) ∧
      (∀ d rest, a.replies = [] → a.notice = ⟨0, 0, 0, 0⟩ → a.events = [] → a.stream = .done d :: rest →
        serve b a = { a with
          stream := rest, partSeq := a.partSeq + 1
          line := some ⟨0x83, a.partSeq,
            [byteOf d.tag.val, outcomeByte d.outcome,
              BitVec.ofNat 8 ((if d.firstSuspect = none then 0 else 1) + (if d.cause = none then 0 else 2) +
                (if d.failing = none then 0 else 4))] ++
              le16Nat d.done ++ le16Nat d.next.cylinder ++ [byteOf d.next.surface, byteOf d.next.sector, byteOf d.retries] ++
              le16Nat d.suspects ++
              (match d.firstSuspect with
                | none => [0, 0]
                | some k => le16Nat k) ++
              [causeByte d.cause] ++
              (match d.failing with
                | none => [0, 0, 0, 0]
                | some x => le16Nat x.cylinder ++ [byteOf x.surface, byteOf x.sector]), false⟩ }) ∧
      (a.replies = [] → a.notice = ⟨0, 0, 0, 0⟩ → a.events = [] → a.stream = [] → serve b a = a)) ∧
    (sourceFilled b a = true ↔
      (b.replies = [] ∧ a.replies ≠ []) ∨ (b.notice = ⟨0, 0, 0, 0⟩ ∧ a.notice ≠ ⟨0, 0, 0, 0⟩) ∨
        (b.events = [] ∧ a.events ≠ []) ∨ (b.stream = [] ∧ a.stream ≠ [])) ∧
    [Code.ok, .badField, .unknownKind, .tagInUse, .noSuchTag, .noSpindle, .spindleAbsent, .spindleFaulted, .range, .writeProtected,
        .window, .noBuffer, .busy, .wrongState, .limitInUse, .cancelling].map codeByte =
      [0, 1, 2, 3, 4, 5, 6, 7, 8, 9, 10, 11, 12, 13, 14, 15] ∧
    [Outcome.complete, .completeSuspect, .cancelled, .dataCheck, .sectorNotFound, .positionError, .verifyMismatch, .writeProtected,
        .spindleFault, .spindleAbsent].map outcomeByte = [0, 1, 2, 3, 4, 5, 6, 7, 8, 9] ∧
    [SpindleState.unconfigured, .absent, .parked, .spinWait, .spinningUp, .ready, .spinningDown, .faulted].map stateByte =
      [0, 1, 2, 3, 4, 5, 6, 7] ∧
    [none, some Cause.unitFault, some .spinupTimeout, some .spindownTimeout, some .speedLost, some .tracking,
        some .restoreFailed].map causeByte = [0, 1, 2, 3, 4, 5, 6] ∧
    (∀ e : EventSet, eventSetByte e = BitVec.ofNat 8
      ((if e.stateChange then 1 else 0) + (if e.wprChange then 2 else 0) + (if e.positionLost then 4 else 0) +
        (if e.armLost then 8 else 0) + (if e.attention then 16 else 0))) ∧
    ∀ n : Nat, n < 65536 → le16Nat n = [BitVec.ofNat 8 n, BitVec.ofNat 8 (n / 256)]

/-- R169: the handling of a message begins exactly when its frame is the head of the inbound queue, no RESTART is in progress, the
reply queue holds fewer than 4 replies and the Stream fewer than 32 DONE entries (and RSTn is released, R183); otherwise the
message waits and nothing changes. -/
def Obligations.HandlingWaits : Prop :=
  ∀ (i : Instr) (s : State),
    (s.canHandle i = true ↔
      s.inReset = false ∧ (∃ f rest, s.inbound = f :: rest ∧ decodeFrame f = i) ∧ s.restart = none ∧
        s.replies.length < 4 ∧ s.streamDones < 32) ∧
    (i.isMessage = true → s.canHandle i = false → exec i s = .next s)

/-- R169, R170: the Link Controller's own refusals, and what a REPLY carries. A refused message leaves the inbound queue and joins
its REPLY to the reply queue, and changes nothing else. -/
def Obligations.LinkRefusals : Prop :=
  ∀ (s : State) (seq : Byte),
    (∀ kind code body, s.pushReply kind seq code body = { s with
      replies := s.replies ++ [⟨kind, seq, code, s.free, 32 - s.table.length, body⟩] }) ∧
    s.popInbound = { s with inbound := s.inbound.tail } ∧
    (∀ kind body, s.canHandle (.unknownKind kind seq body) = true →
      exec (.unknownKind kind seq body) s =
        .next (serve s.popInbound (s.popInbound.pushReply kind seq .unknownKind []))) ∧
    (∀ kind body, s.canHandle (.messageRefusedBadField kind seq body) = true →
      exec (.messageRefusedBadField kind seq body) s =
        .next (serve s.popInbound (s.popInbound.pushReply kind seq .badField []))) ∧
    (∀ bytes, s.canHandle (.submit seq (.otherLength bytes)) = true →
      exec (.submit seq (.otherLength bytes)) s =
        .next (serve s.popInbound (s.popInbound.pushReply 0x01 seq .badField []))) ∧
    (∀ bytes, s.canHandle (.wdata seq (.otherLength bytes)) = true →
      exec (.wdata seq (.otherLength bytes)) s =
        .next (serve s.popInbound (s.popInbound.pushReply 0x02 seq .badField []))) ∧
    (∀ bytes, s.canHandle (.cancel seq (.otherLength bytes)) = true →
      exec (.cancel seq (.otherLength bytes)) s =
        .next (serve s.popInbound (s.popInbound.pushReply 0x03 seq .badField []))) ∧
    (∀ bytes, s.canHandle (.getp seq (.otherLength bytes)) = true →
      exec (.getp seq (.otherLength bytes)) s =
        .next (serve s.popInbound (s.popInbound.pushReply 0x06 seq .badField []))) ∧
    (∀ body, body ≠ [] → s.canHandle (.restart seq body) = true →
      exec (.restart seq body) s = .next (serve s.popInbound (s.popInbound.pushReply 0x08 seq .badField [])))

/-- R179: an ECHO is answered with its own body, up to 1,035 bytes, which fills a REPLY to at most 1,040; a longer one is refused.
No state changes but the queues. -/
def Obligations.EchoAnswers : Prop :=
  ∀ (s : State) (seq : Byte) (body : List Byte), s.canHandle (.echo seq body) = true →
    (body.length ≤ 1035 →
      exec (.echo seq body) s = .next (serve s.popInbound (s.popInbound.pushReply 0x09 seq .ok body)) ∧
      (replyBody ⟨0x09, seq, .ok, s.free, s.freeSlots, body⟩).length ≤ 1040) ∧
    (1035 < body.length →
      exec (.echo seq body) s = .next (serve s.popInbound (s.popInbound.pushReply 0x09 seq .badField [])))

/-- R177: GETP answers with the id and the value in force, for the ids of Table 9-9, and changes nothing. -/
def Obligations.GetpAnswers : Prop :=
  ∀ (s : State) (seq b : Byte), s.canHandle (.getp seq (.fields b)) = true →
    (∀ id lo hi, (b, id, lo, hi) ∈ paramRows →
      exec (.getp seq (.fields b)) s =
        .next (serve s.popInbound (s.popInbound.pushReply 0x06 seq .ok (b :: le32Nat (s.params.get id))))) ∧
    (b.toNat = 0 ∨ 13 < b.toNat →
      exec (.getp seq (.fields b)) s =
        .next (serve s.popInbound (s.popInbound.pushReply 0x06 seq .badField [])))

/-- R176, R101 and Tables 9-6 to 9-8: STATUS answers with the record of its selector, as the event finds it, and changes nothing;
the numbers it refuses. The records are written out field by field, with the codes and bits of their fields (Table 9-5).
The model's choices: times are in whole ms, rounded down (assumption 11); the bytes of an absent fill word or suspect index are left
open (assumption 10); flags are sent as 0 or 1 and as SUBMIT's byte (assumption 21); the WPR byte of an UNCONFIGURED spindle is the
level on the pin (assumption 30). -/
def Obligations.StatusAnswers : Prop :=
  ∀ (s : State) (seq n : Byte),
    (s.canHandle (.statusPart seq n) = true →
      exec (.statusPart seq n) s = .next (serve s.popInbound (s.popInbound.pushReply 0x07 seq .ok
        ([byteOf s.free, byteOf s.table.length] ++
          (byteOf s.table.length :: s.table.map fun r => byteOf r.tag.val) ++
          (match s.chan with
            | none => [0, 0xFF]
            | some e => [phaseByte e.phase, byteOf e.tag.val]) ++
          [byteOf s.spinningCount, byteOf s.risingCount] ++
          (byteOf s.waitList.length :: s.waitList.map fun p => byteOf p.val) ++
          le16Nat s.notice.checkFailures ++ le16Nat s.notice.lengthErrors ++ le16Nat s.notice.gapTimeouts ++
          le16Nat s.notice.overruns)))) ∧
    (∀ p : Port, n.toNat = p.val → s.canHandle (.statusSpindle seq n) = true →
      ∃ record, exec (.statusSpindle seq n) s =
          .next (serve s.popInbound (s.popInbound.pushReply 0x07 seq .ok record)) ∧
        record.length = 25 ∧
        record.take 2 = [stateByte (s.spindle p).state, causeByte (s.spindle p).cause] ∧
        (record.drop 2).take 4 =
          (match (s.spindle p).geometry with
            | none => [0, 0, 0, 0]
            | some g => le16Nat g.cylinders ++ [byteOf g.surfaces, byteOf g.sectors]) ∧
        (record.drop 6).take 3 =
          [flagByte (s.spindle p).pinned, flagByte (s.spindle p).respin, flagByte (s.spindle p).lines.wpr] ∧
        (record.drop 9).take 3 =
          [flagByte (s.spindle p).tracker.tracked,
            (if (s.spindle p).tracker.tracked then byteOf (s.spindle p).tracker.sector else 0),
            byteOf (s.spindle p).tracker.errors] ∧
        (record.drop 12).take 4 = le32Nat ((s.spindle p).tracker.period.getD 0) ∧
        (record.drop 16).take 4 =
          (match (s.spindle p).arm with
            | .unknown => [0, 0xFF, 0xFF, 0xFF]
            | .restoring _ => [1, 0, 0, 0xFF]
            | .settled c => 2 :: le16Nat c ++ [0xFF]
            | .seeking c none _ => 3 :: le16Nat c ++ [0xFF]
            | .seeking c (some t) _ => 3 :: le16Nat c ++ [byteOf t.val]) ∧
        (record.drop 20).take 1 = [byteOf (s.requestCount p)] ∧
        record.drop 21 =
          (match (s.spindle p).idleTimer with
            | none => [0xFF, 0xFF, 0xFF, 0xFF]
            | some deadline => le32Nat ((deadline - s.now) / 1000))) ∧
    (7 < n.toNat → s.canHandle (.statusSpindle seq n) = true →
      exec (.statusSpindle seq n) s =
        .next (serve s.popInbound (s.popInbound.pushReply 0x07 seq .badField []))) ∧
    (∀ t r, n.toNat = t.val → s.request t = some r → s.canHandle (.statusRequest seq n) = true →
      ∃ record, exec (.statusRequest seq n) s =
          .next (serve s.popInbound (s.popInbound.pushReply 0x07 seq .ok record)) ∧
        record.take 10 =
          [byteOf r.tag.val, kindByte r.kind, byteOf r.spindle.val, flagsByte r.flags] ++ le16Nat r.start.cylinder ++
            [byteOf r.start.surface, byteOf r.start.sector] ++ le16Nat r.count ∧
        (∀ w, r.fill = some w → (record.drop 10).take 5 = 1 :: le32 w) ∧
        (r.fill = none → (record.drop 10).take 1 = [0]) ∧
        (record.drop 15).take 10 =
          [statusByte r.status, holdsByte r.holds] ++ le16Nat r.next.cylinder ++
            [byteOf r.next.surface, byteOf r.next.sector] ++ le16Nat r.done ++ le16Nat r.suspects ∧
        (∀ k, r.firstSuspect = some k → (record.drop 25).take 3 = 1 :: le16Nat k) ∧
        (r.firstSuspect = none → (record.drop 25).take 1 = [0]) ∧
        (record.drop 28).take 8 =
          [byteOf r.retries, byteOf r.budget, flagByte r.overdue, flagByte r.cancelPending] ++
            le32Nat (min 4294967295 ((s.now - r.admitted) / 1000)) ∧
        record.drop 36 =
          (if r.kind = .write then
            le16Nat r.frontier ++ byteOf r.staged.length :: r.staged.flatMap fun b => le16Nat b.index
          else [0, 0, 0])) ∧
    (∀ t, n.toNat = Fin.val (n := 32) t → s.request t = none → s.canHandle (.statusRequest seq n) = true →
      exec (.statusRequest seq n) s =
        .next (serve s.popInbound (s.popInbound.pushReply 0x07 seq .noSuchTag []))) ∧
    (31 < n.toNat → s.canHandle (.statusRequest seq n) = true →
      exec (.statusRequest seq n) s =
        .next (serve s.popInbound (s.popInbound.pushReply 0x07 seq .badField []))) ∧
    (∀ ph : Phase, phaseByte ph =
      (match ph with
        | .search => 1
        | .readField _ _ => 2
        | .writeField _ _ _ => 2
        | .verifyField _ _ => 2
        | .pass _ => 3
        | .formatWait => 4
        | .formatWrite _ => 5)) ∧
    [Status.held, .queued, .active].map statusByte = [0, 1, 2] ∧
    [Kind.read, .write, .verify, .format].map kindByte = [1, 2, 3, 4] ∧
    (∀ f : Flags, flagsByte f = BitVec.ofNat 8
      ((if f.barrier then 1 else 0) + (if f.urgent then 2 else 0) + (if f.tolerate then 4 else 0) +
        (if f.verifyAfter then 8 else 0) + (if f.noRetry then 16 else 0))) ∧
    (∀ h : Holds, holdsByte h = BitVec.ofNat 8
      ((if h.spindle then 1 else 0) + (if h.barrier then 2 else 0) + (if h.noData then 4 else 0) +
        (if h.noBuffer then 8 else 0))) ∧
    ∀ w : Word, le32 w =
      [BitVec.ofNat 8 w.toNat, BitVec.ofNat 8 (w.toNat / 256), BitVec.ofNat 8 (w.toNat / 65536),
        BitVec.ofNat 8 (w.toNat / 16777216)]

/-! ### Parameters and RESTART -/

/-- R178, R177, R42: a SETP of a value outside Table 9-9's range is refused BAD_FIELD, a SPIN_LIMIT or SURGE_LIMIT below its count
LIMIT_IN_USE; every other SETP is accepted, stores its value and leaves every other parameter as it was. Eleven of the thirteen
change nothing else; only a SPIN_LIMIT or SURGE_LIMIT may start the Spindle Manager's evaluations. -/
def Obligations.SetpStores : Prop :=
  ∀ (s : State) (seq : Byte) (id : ParamId) (value : Word), s.canHandle (setpInstr id seq value) = true →
    (¬ inTable99 id value.toNat → Refused (setpInstr id seq value) s 0x05 seq .badField) ∧
    (inTable99 id value.toNat →
      (id = .spinLimit ∧ value.toNat < s.spinningCount ∨ id = .surgeLimit ∧ value.toNat < s.risingCount) →
      Refused (setpInstr id seq value) s 0x05 seq .limitInUse) ∧
    (inTable99 id value.toNat → (id = .spinLimit → s.spinningCount ≤ value.toNat) →
      (id = .surgeLimit → s.risingCount ≤ value.toNat) →
      ∃ v : State, Accepted (setpInstr id seq value) s 0x05 seq v ∧ v.params.get id = value.toNat ∧
        (∀ other : ParamId, other ≠ id → v.params.get other = s.params.get other) ∧
        (id ≠ .ageLimit → id ≠ .trackFaultLimit → v = { s.popInbound with params := v.params }) ∧
        (id ≠ .spinLimit → id ≠ .surgeLimit → id ≠ .ageLimit → finish s.popInbound v = v))

/-- R90, R51, R178: a new AGE_LIMIT re-times from its admission every request not yet overdue and marks overdue those whose new
deadline has come; a new TRACK_FAULT_LIMIT lowers every greater tracking error count to it. A value equal to the one in force
changes nothing. -/
def Obligations.SetpRetimesAndLowers : Prop :=
  ∀ (s : State) (seq : Byte) (value : Word),
    (s.canHandle (.setpAgeLimit seq value) = true → inTable99 .ageLimit value.toNat →
      ∃ v : State, Accepted (.setpAgeLimit seq value) s 0x05 seq v ∧
        v = { s.popInbound with
          params := { s.params with ageLimit := value.toNat }
          table :=
            if s.params.ageLimit = value.toNat then s.table
            else s.table.map fun r =>
              if r.overdue = true then r
              else if r.admitted + value.toNat * 1000 ≤ s.now then { r with overdue := true, ageTimer := none }
              else { r with ageTimer := some (r.admitted + value.toNat * 1000) } }) ∧
    (s.canHandle (.setpTrackFaultLimit seq value) = true → inTable99 .trackFaultLimit value.toNat →
      ∃ v : State, Accepted (.setpTrackFaultLimit seq value) s 0x05 seq v ∧
        v = { s.popInbound with
          params := { s.params with trackFaultLimit := value.toNat }
          spindles := v.spindles } ∧
        ∀ p : Port, v.spindle p =
          if s.params.trackFaultLimit = value.toNat then s.spindle p
          else { s.spindle p with
            tracker := { (s.spindle p).tracker with errors := min (s.spindle p).tracker.errors value.toNat } })

/-- R180, R149: a RESTART is taken at once: it is in progress, and the choice hold and the stop request are set. A channel that is
IDLE, searching, reading for a READ or a VERIFY request, in the verify pass between sectors, or waiting for a format's mark stops
in that event, its buffers returned and its record cleared; a channel that writes, or reads a pending sector, goes on, and the REPLY
waits. -/
def Obligations.RestartTaken : Prop :=
  ∀ (s : State) (seq : Byte), s.canHandle (.restart seq []) = true →
    (s.chan = none →
      exec (.restart seq []) s = .next (settle s.popInbound
        { s.popInbound with restart := some seq, choiceHold := true, stopRequest := true })) ∧
    (∀ e, s.chan = some e → e.phase.stopsAtOnce = true →
      exec (.restart seq []) s = .next (settle s.popInbound
        { s.popInbound with
          restart := some seq, choiceHold := true, stopRequest := true, chan := none
          free := s.free + e.buffers, table := s.table.map (Request.afterReturn e.buffers) })) ∧
    (∀ e, s.chan = some e → e.phase.stopsAtOnce = false →
      exec (.restart seq []) s = .next
        { s.popInbound with restart := some seq, choiceHold := true, stopRequest := true }) ∧
    (∀ ph : Phase, ph.stopsAtOnce = true ↔
      ph = .search ∨ (∃ w k, ph = .readField w k) ∨ (∃ w k, ph = .verifyField w k) ∨ ph = .pass none ∨ ph = .formatWait ∨
        ph = .formatWrite false)

/-- R181, R182, R32, R43, R102, R164, R193: the clearing step. The Stream, the Event Queue, the notice record and the table are emptied
with their buffers returned and no DONE; unpinned spindles in SPIN_WAIT go to PARKED, with a STATE_CHANGE each in ascending order;
respin is cleared and the idle timer of a READY spindle starts afresh on unpinned spindles; seeks go on without owners; the spindles
whose requests were removed, and those whose requests the same event completed before, move to the tail of the activity order in
ascending order; the RESTART ends with its REPLY. What follows in the event is at
most the Spindle Manager's evaluations.
That the step is made once, and the evaluations after it when they are due, is read off the states before and after the event (model's,
assumption 16). -/
def Obligations.ClearingStep : Prop :=
  ∀ b a : State, stopDone b a = true → ∃ c : State,
    finish b a = (if budgetDue b c then c.evalBudget else c) ∧
    c = { a with
      spindles := c.spindles
      waitList := a.waitList.filter fun p => !((a.spindle p).state == .spinWait && !(a.spindle p).pinned)
      activity := (allPorts.filter fun p => b.requestCount p != 0 || a.requestCount p != 0).foldl
        (fun l p => l.filter (· != p) ++ [p]) a.activity
      table := [], choiceHold := false, stopRequest := false, stream := [], notice := ⟨0, 0, 0, 0⟩, restart := none
      free := a.free + a.streamBuffers + a.stagedBuffers
      events := (allPorts.filter fun p => (a.spindle p).state == .spinWait && !(a.spindle p).pinned).map fun p =>
        ⟨p, ⟨true, false, false, false, false⟩, .parked, none, 1⟩
      replies := a.replies ++
        [⟨0x08, a.restart.getD 0, .ok, a.free + a.streamBuffers + a.stagedBuffers, 32, []⟩] } ∧
    (∀ p : Port,
      (c.spindle p).arm =
        (match (a.spindle p).arm with
          | .seeking target _ deadline => .seeking target none deadline
          | arm => arm) ∧
      ((a.spindle p).pinned = true → c.spindle p = { a.spindle p with arm := (c.spindle p).arm }) ∧
      ((a.spindle p).pinned = false → (a.spindle p).state = .ready →
        c.spindle p = { a.spindle p with
          arm := (c.spindle p).arm, respin := false
          idleTimer := if a.params.idleTimeout = 0 then none else some (a.now + a.params.idleTimeout * 1000000) }) ∧
      ((a.spindle p).pinned = false → (a.spindle p).state = .spinWait →
        c.spindle p = { a.spindle p with
          arm := (c.spindle p).arm, respin := false, state := .parked, spinUpTimer := none, spinDownTimer := none }) ∧
      ((a.spindle p).pinned = false → (a.spindle p).state ≠ .ready → (a.spindle p).state ≠ .spinWait →
        c.spindle p = { a.spindle p with arm := (c.spindle p).arm, respin := false })) ∧
    (a.BuffersAccounted → a.inReset = false → a.chan = none →
      c.free = if a.line.any (·.holdsBuffer) then 23 else 24)

/-! ### Spindles -/

/-- R41, R25, R28, R29, R31, R53, R69, R187: a change of a spindle's state. It leaves the wait list with SPIN_WAIT, its spin timers
stop outside their states, leaving READY stops the idle timer and gives up the arm, leaving the spinning states clears the tracker;
its requests that are not ACTIVE have SPINDLE evaluated; one STATE_CHANGE is posted, with the cause in FAULTED; no other spindle and
nothing else changes. -/
def Obligations.StateChange : Prop :=
  ∀ (s : State) (p : Port) (st : SpindleState),
    s.enterState p st = { s with
      spindles := (s.enterState p st).spindles
      waitList :=
        if (s.spindle p).state = .spinWait ∧ st ≠ .spinWait then s.waitList.filter (· != p) else s.waitList
      table := s.table.map
        (Request.spindleEvaluated p (!(st == .ready && ((s.enterState p st).spindle p).tracker.tracked)))
      events := stateChangePosted p st (if st = .faulted then (s.spindle p).cause else none)
        s.events } ∧
    (s.enterState p st).spindle p = { s.spindle p with
      state := st
      spinUpTimer := if st = .spinningUp then (s.spindle p).spinUpTimer else none
      spinDownTimer := if st = .spinningDown then (s.spindle p).spinDownTimer else none
      idleTimer := if (s.spindle p).state = .ready ∧ st ≠ .ready then none else (s.spindle p).idleTimer
      arm := if (s.spindle p).state = .ready ∧ st ≠ .ready then .unknown else (s.spindle p).arm
      tracker :=
        if (s.spindle p).state.spinning = true ∧ st.spinning = false then ⟨false, 0, 0, none, none⟩
        else (s.spindle p).tracker } ∧
    ∀ q : Port, q ≠ p → (s.enterState p st).spindle q = s.spindle q

/-- R30, R31, R189: a spindle enters SPINNING_DOWN with the spin-down timer started; with SPUN already deasserted the spin-down ends
in the same event: the spindle reaches PARKED, and with respin set it joins the wait list's tail in SPIN_WAIT, respin cleared. Each
change posts. -/
def Obligations.SpinDownBeginsAndEnds : Prop :=
  ∀ (s : State) (p : Port),
    ((s.spindle p).state = .spinningUp ∨ (s.spindle p).state = .ready →
      ∃ v : State,
        v = { s with
          spindles := v.spindles
          table := s.table.map (Request.spindleEvaluated p true)
          events := stateChangePosted p .spinningDown none s.events } ∧
        v.spindle p = { s.spindle p with
          state := .spinningDown, spinUpTimer := none
          spinDownTimer := some (s.now + s.params.spindownTimeout * 1000000)
          idleTimer := if (s.spindle p).state = .ready then none else (s.spindle p).idleTimer
          arm := if (s.spindle p).state = .ready then .unknown else (s.spindle p).arm } ∧
        (∀ q : Port, q ≠ p → v.spindle q = s.spindle q) ∧
        ((s.spindle p).lines.spun = true → s.enterSpinningDown p = v) ∧
        ((s.spindle p).lines.spun = false → s.enterSpinningDown p = v.endSpinDown p)) ∧
    ((s.spindle p).state = .spinningDown →
      (s.endSpinDown p).spindle p = { s.spindle p with
        state := if (s.spindle p).respin then .spinWait else .parked
        respin := false, spinUpTimer := none, spinDownTimer := none, tracker := ⟨false, 0, 0, none, none⟩ } ∧
      (∀ q : Port, q ≠ p → (s.endSpinDown p).spindle q = s.spindle q) ∧
      s.endSpinDown p = { s with
        spindles := (s.endSpinDown p).spindles
        waitList := if (s.spindle p).respin then s.waitList ++ [p] else s.waitList
        table := s.table.map (Request.spindleEvaluated p true)
        events :=
          if (s.spindle p).respin then
            stateChangePosted p .spinWait none
              (stateChangePosted p .parked none s.events)
          else stateChangePosted p .parked none s.events })

/-- R17, R18, R186: CONFIGURE. Its refusals in their order; on acceptance the geometry is stored and the spindle goes to PARKED or
ABSENT as PRES stands, with a STATE_CHANGE only when the state changes. -/
def Obligations.Configure : Prop :=
  ∀ (s : State) (seq n : Byte) (c : Half) (h k : Byte), s.canHandle (.configure seq n c h k) = true →
    (7 < n.toNat → Refused (.configure seq n c h k) s 0x04 seq .badField) ∧
    ∀ p : Port, n.toNat = p.val →
      (¬ (1 ≤ c.toNat ∧ c.toNat ≤ 4096 ∧ 1 ≤ h.toNat ∧ h.toNat ≤ 16 ∧ 4 ≤ k.toNat ∧ k.toNat ≤ 64) →
        Refused (.configure seq n c h k) s 0x04 seq .badField) ∧
      (1 ≤ c.toNat ∧ c.toNat ≤ 4096 ∧ 1 ≤ h.toNat ∧ h.toNat ≤ 16 ∧ 4 ≤ k.toNat ∧ k.toNat ≤ 64 →
        (s.requestCount p ≠ 0 → Refused (.configure seq n c h k) s 0x04 seq .busy) ∧
        (s.requestCount p = 0 →
          ¬ ((s.spindle p).state = .unconfigured ∨ (s.spindle p).state = .absent ∨ (s.spindle p).state = .parked) →
          Refused (.configure seq n c h k) s 0x04 seq .wrongState) ∧
        (s.requestCount p = 0 → s.TimersSound →
          (s.spindle p).state = .unconfigured ∨ (s.spindle p).state = .absent ∨ (s.spindle p).state = .parked →
          ∃ (v : State) (st : SpindleState), Accepted (.configure seq n c h k) s 0x04 seq v ∧
            st = (if (s.spindle p).lines.pres then .parked else .absent) ∧
            v = { s.popInbound with
              spindles := v.spindles
              events := if (s.spindle p).state = st then s.events else stateChangePosted p st none s.events } ∧
            v.spindle p = { s.spindle p with state := st, geometry := some ⟨c.toNat, h.toNat, k.toNat⟩ } ∧
            ∀ q : Port, q ≠ p → v.spindle q = s.spindle q))

/-- R17, R19, R22, R186: DECONFIGURE and CLEAR_FAULT, with their refusals. DECONFIGURE discards geometry and cause, takes the spindle
out of the activity order, and leaves it UNCONFIGURED; CLEAR_FAULT removes the cause of a FAULTED spindle, which goes to PARKED or
ABSENT as PRES stands. Each posts one STATE_CHANGE. -/
def Obligations.DeconfigureAndClearFault : Prop :=
  ∀ (s : State) (seq n : Byte),
    (7 < n.toNat →
      (s.canHandle (.deconfigure seq n) = true → Refused (.deconfigure seq n) s 0x04 seq .badField) ∧
      (s.canHandle (.clearFault seq n) = true → Refused (.clearFault seq n) s 0x04 seq .badField)) ∧
    ∀ p : Port, n.toNat = p.val →
      (s.canHandle (.deconfigure seq n) = true →
        (s.requestCount p ≠ 0 → Refused (.deconfigure seq n) s 0x04 seq .busy) ∧
        (s.requestCount p = 0 →
          ¬ ((s.spindle p).state = .parked ∨ (s.spindle p).state = .absent ∨ (s.spindle p).state = .faulted) →
          Refused (.deconfigure seq n) s 0x04 seq .wrongState) ∧
        (s.requestCount p = 0 → s.TimersSound →
          (s.spindle p).state = .parked ∨ (s.spindle p).state = .absent ∨ (s.spindle p).state = .faulted →
          ∃ v : State, Accepted (.deconfigure seq n) s 0x04 seq v ∧
            v = { s.popInbound with
              spindles := v.spindles
              activity := s.activity.filter (· != p)
              events := stateChangePosted p .unconfigured none s.events } ∧
            v.spindle p = { s.spindle p with state := .unconfigured, geometry := none, cause := none } ∧
            ∀ q : Port, q ≠ p → v.spindle q = s.spindle q)) ∧
      (s.canHandle (.clearFault seq n) = true →
        ((s.spindle p).state ≠ .faulted → Refused (.clearFault seq n) s 0x04 seq .wrongState) ∧
        ((s.spindle p).state = .faulted → s.TimersSound →
          ∃ (v : State) (st : SpindleState), Accepted (.clearFault seq n) s 0x04 seq v ∧
            st = (if (s.spindle p).lines.pres then .parked else .absent) ∧
            v = { s.popInbound with
              spindles := v.spindles
              table := s.table.map (Request.spindleEvaluated p true)
              events := stateChangePosted p st none s.events } ∧
            v.spindle p = { s.spindle p with state := st, cause := none } ∧
            ∀ q : Port, q ≠ p → v.spindle q = s.spindle q))

/-- R17, R20, R25: SPIN_UP by the state it finds: refused NO_SPINDLE, SPINDLE_ABSENT or SPINDLE_FAULTED, and otherwise accepted with
pinned set; a PARKED spindle joins the wait list's tail in SPIN_WAIT, a READY one's idle timer stops, a SPINNING_DOWN one has respin
set. -/
def Obligations.SpinUp : Prop :=
  ∀ (s : State) (seq n : Byte), s.canHandle (.spinUp seq n) = true →
    (7 < n.toNat → Refused (.spinUp seq n) s 0x04 seq .badField) ∧
    ∀ p : Port, n.toNat = p.val →
      ((s.spindle p).state = .unconfigured → Refused (.spinUp seq n) s 0x04 seq .noSpindle) ∧
      ((s.spindle p).state = .absent → Refused (.spinUp seq n) s 0x04 seq .spindleAbsent) ∧
      ((s.spindle p).state = .faulted → Refused (.spinUp seq n) s 0x04 seq .spindleFaulted) ∧
      ((s.spindle p).state = .parked → s.TimersSound →
        ∃ v : State, Accepted (.spinUp seq n) s 0x04 seq v ∧
          v = { s.popInbound with
            spindles := v.spindles
            waitList := s.waitList ++ [p]
            table := s.table.map (Request.spindleEvaluated p true)
            events := stateChangePosted p .spinWait none s.events } ∧
          v.spindle p = { s.spindle p with state := .spinWait, pinned := true } ∧
          ∀ q : Port, q ≠ p → v.spindle q = s.spindle q) ∧
      ((s.spindle p).state = .spinWait ∨ (s.spindle p).state = .spinningUp ∨ (s.spindle p).state = .ready ∨
          (s.spindle p).state = .spinningDown →
        ∃ v : State, Accepted (.spinUp seq n) s 0x04 seq v ∧ v = { s.popInbound with spindles := v.spindles } ∧
          v.spindle p = { s.spindle p with
            pinned := true
            idleTimer := if (s.spindle p).state = .ready then none else (s.spindle p).idleTimer
            respin := if (s.spindle p).state = .spinningDown then true else (s.spindle p).respin } ∧
          ∀ q : Port, q ≠ p → v.spindle q = s.spindle q)

/-- R17, R21, R30: SPIN_DOWN by the state it finds: refused BUSY with a request in the table, WRONG_STATE in UNCONFIGURED, ABSENT and
FAULTED, and otherwise accepted with pinned cleared; a spindle in SPIN_WAIT leaves the wait list for PARKED, one SPINNING_UP or READY
enters SPINNING_DOWN, one SPINNING_DOWN has respin cleared. -/
def Obligations.SpinDown : Prop :=
  ∀ (s : State) (seq n : Byte), s.canHandle (.spinDown seq n) = true →
    (7 < n.toNat → Refused (.spinDown seq n) s 0x04 seq .badField) ∧
    ∀ p : Port, n.toNat = p.val →
      (s.requestCount p ≠ 0 → Refused (.spinDown seq n) s 0x04 seq .busy) ∧
      (s.requestCount p = 0 →
        ((s.spindle p).state = .unconfigured ∨ (s.spindle p).state = .absent ∨ (s.spindle p).state = .faulted →
          Refused (.spinDown seq n) s 0x04 seq .wrongState) ∧
        ((s.spindle p).state = .parked ∨ (s.spindle p).state = .spinningDown →
          ∃ v : State, Accepted (.spinDown seq n) s 0x04 seq v ∧ v = { s.popInbound with spindles := v.spindles } ∧
            v.spindle p = { s.spindle p with
              pinned := false
              respin := if (s.spindle p).state = .spinningDown then false else (s.spindle p).respin } ∧
            ∀ q : Port, q ≠ p → v.spindle q = s.spindle q) ∧
        ((s.spindle p).state = .spinWait → s.TimersSound →
          ∃ v : State, Accepted (.spinDown seq n) s 0x04 seq v ∧
            v = { s.popInbound with
              spindles := v.spindles
              waitList := s.waitList.filter (· != p)
              events := stateChangePosted p .parked none s.events } ∧
            v.spindle p = { s.spindle p with state := .parked, pinned := false } ∧
            ∀ q : Port, q ≠ p → v.spindle q = s.spindle q) ∧
        ((s.spindle p).state = .spinningUp ∨ (s.spindle p).state = .ready →
          ∃ u : State, Accepted (.spinDown seq n) s 0x04 seq (u.enterSpinningDown p) ∧
            u = { s.popInbound with spindles := u.spindles } ∧
            u.spindle p = { s.spindle p with pinned := false } ∧ ∀ q : Port, q ≠ p → u.spindle q = s.spindle q))

/-- R39, R40, R97, R99, R147, R162: a spindle enters FAULTED with a cause, or ABSENT. Flags and timers are cleared, the arm and the tracker
are given up, the spindle leaves the wait list; the channel, if it is engaged there, aborts with its buffers returned and a sector
being written torn where the gate fell, and a format slot written whole whose mark has not come is counted unless it is the last; every request of the
spindle completes, the ACTIVE one first and the others in admission order, its staged buffers returned; requests of other spindles stay
but for a lifted NO_BUFFER.
Where the gate fell is a free value (assumption 9). What it leaves of a format slot (assumption 32), and that a slot written whole is
counted there (assumption 38), are the model's readings. -/
def Obligations.SpindleLeavesService : Prop :=
  ∀ (s : State) (p : Port) (v : State) (st : SpindleState) (o : Outcome) (cause : Option Cause),
    s.EngagementExact → s.ArmExact →
    ((∃ c, v = s.enterFaulted p c ∧ st = .faulted ∧ o = .spindleFault ∧ cause = some c) ∨
      (v = s.enterAbsent p ∧ st = .absent ∧ o = .spindleAbsent ∧ cause = none)) →
    (∃ u : State,
      (∀ e r, s.chan = some e → e.spindle = p → e.phase = .formatWrite false → s.request e.tag = some r → r.done + 1 < r.count →
        u = s.withSectorDone e.tag) ∧
      ((∀ e r, s.chan = some e → e.spindle = p → e.phase = .formatWrite false → s.request e.tag = some r →
        r.count ≤ r.done + 1) → u = s) ∧
      v.stream = s.stream ++
        ((u.table.filter fun r => r.spindle == p && r.status == .active) ++
          (u.table.filter fun r => r.spindle == p && r.status != .active)).map fun r => doneOf r o cause none) ∧
    v = { s with
      spindles := v.spindles
      waitList := if (s.spindle p).state = .spinWait then s.waitList.filter (· != p) else s.waitList
      activity := if s.requestCount p = 0 then s.activity else s.activity.filter (· != p) ++ [p]
      table := (s.table.filter fun r => r.spindle != p).map (Request.afterReturn (s.buffersOn p))
      chan := if s.chan.any (fun e => e.spindle == p) then none else s.chan
      free := s.free + s.buffersOn p
      stream := v.stream
      events := stateChangePosted p st cause s.events
      media := v.media
      freeUses := v.freeUses } ∧
    v.spindle p = { s.spindle p with
      state := st, cause := cause, pinned := false, respin := false, spinUpTimer := none, spinDownTimer := none
      idleTimer := none, arm := .unknown
      tracker := if (s.spindle p).state.spinning then ⟨false, 0, 0, none, none⟩ else (s.spindle p).tracker } ∧
    (∀ q : Port, q ≠ p → v.spindle q = s.spindle q) ∧
    (s.writeGate ≠ some p → v.media = s.media ∧ v.freeUses = s.freeUses) ∧
    (s.writeGate = some p → s.TearLeaves v)

/-- R28, R31, R36, R37, R14: the events that fault a spindle: a rising edge of UFLT in the five states that take it, a fall of SPUN
in READY, and the spin-up and spin-down timers at their deadlines; otherwise the edge or the expiry does nothing.
An expiry moves the clock to its deadline (model's choice, assumption 3). -/
def Obligations.FaultEvents : Prop :=
  ∀ (s : State) (p : Port), s.inReset = false →
    ((s.spindle p).state = .parked ∨ (s.spindle p).state = .spinWait ∨ (s.spindle p).state = .spinningUp ∨
        (s.spindle p).state = .ready ∨ (s.spindle p).state = .spinningDown →
      Taken (.ufltRising p) s (s.enterFaulted p .unitFault)) ∧
    ((s.spindle p).state = .unconfigured ∨ (s.spindle p).state = .absent ∨ (s.spindle p).state = .faulted →
      exec (.ufltRising p) s = .next s) ∧
    ((s.spindle p).state = .ready → (s.spindle p).lines.spun = true →
      ∃ u : State, Taken (.spunChange p false) s (u.enterFaulted p .speedLost) ∧ u = { s with spindles := u.spindles } ∧
        u.spindle p = { s.spindle p with lines := { (s.spindle p).lines with spun := false } } ∧
        ∀ q : Port, q ≠ p → u.spindle q = s.spindle q) ∧
    (∀ d, (s.spindle p).state = .spinningUp → (s.spindle p).spinUpTimer = some d →
      Taken (.spinUpTimerExpiry p) s (State.enterFaulted { s with now := max s.now d } p .spinupTimeout)) ∧
    ((s.spindle p).state ≠ .spinningUp ∨ (s.spindle p).spinUpTimer = none → exec (.spinUpTimerExpiry p) s = .next s) ∧
    (∀ d, (s.spindle p).state = .spinningDown → (s.spindle p).spinDownTimer = some d →
      Taken (.spinDownTimerExpiry p) s (State.enterFaulted { s with now := max s.now d } p .spindownTimeout)) ∧
    ((s.spindle p).state ≠ .spinningDown ∨ (s.spindle p).spinDownTimer = none → exec (.spinDownTimerExpiry p) s = .next s)

/-- R14, R31, R36, R40, R41: the other changes on a port's status lines. A fall of PRES takes every state but UNCONFIGURED and ABSENT
to ABSENT, a rise takes ABSENT to PARKED; a fall of SPUN ends a spin-down, its other changes move no state; each change of WPR and
each rise of ATN posts one event of a configured spindle; everything else changes no more than the level on the line, and a change to
the level that stands nothing. The level stands on the line whether or not the device takes the event (model's choice, assumption
6). -/
def Obligations.LineChanges : Prop :=
  ∀ (s : State) (p : Port), s.inReset = false →
    ∃ onLevel : Lines → State,
      (∀ l : Lines, onLevel l = { s with spindles := (onLevel l).spindles } ∧
        (onLevel l).spindle p = { s.spindle p with lines := l } ∧ ∀ q : Port, q ≠ p → (onLevel l).spindle q = s.spindle q) ∧
      ((s.spindle p).lines.pres = true → (s.spindle p).state ≠ .unconfigured → (s.spindle p).state ≠ .absent →
        Taken (.presFalling p) s ((onLevel { (s.spindle p).lines with pres := false }).enterAbsent p)) ∧
      ((s.spindle p).lines.pres = true → (s.spindle p).state = .unconfigured ∨ (s.spindle p).state = .absent →
        exec (.presFalling p) s = .next (onLevel { (s.spindle p).lines with pres := false })) ∧
      ((s.spindle p).lines.pres = false → (s.spindle p).state = .absent →
        Taken (.presRising p) s ((onLevel { (s.spindle p).lines with pres := true }).enterState p .parked)) ∧
      ((s.spindle p).lines.pres = false → (s.spindle p).state ≠ .absent →
        exec (.presRising p) s = .next (onLevel { (s.spindle p).lines with pres := true })) ∧
      ((s.spindle p).lines.spun = true → (s.spindle p).state = .spinningDown →
        Taken (.spunChange p false) s ((onLevel { (s.spindle p).lines with spun := false }).endSpinDown p)) ∧
      ((s.spindle p).lines.spun = true → (s.spindle p).state ≠ .spinningDown → (s.spindle p).state ≠ .ready →
        exec (.spunChange p false) s = .next (onLevel { (s.spindle p).lines with spun := false })) ∧
      ((s.spindle p).lines.spun = false →
        exec (.spunChange p true) s = .next (onLevel { (s.spindle p).lines with spun := true })) ∧
      (∀ level : Bool, (s.spindle p).lines.wpr ≠ level →
        exec (.wprLevelChange p level) s = .next (serve s { onLevel { (s.spindle p).lines with wpr := level } with
          events :=
            if (s.spindle p).state = .unconfigured then s.events
            else postInto p ⟨false, true, false, false, false⟩ (s.spindle p).state
              (if (s.spindle p).state = .faulted then (s.spindle p).cause else none) s.events })) ∧
      ((s.spindle p).lines.pres = false → exec (.presFalling p) s = .next s) ∧
      ((s.spindle p).lines.pres = true → exec (.presRising p) s = .next s) ∧
      (∀ level : Bool, (s.spindle p).lines.spun = level → exec (.spunChange p level) s = .next s) ∧
      (∀ level : Bool, (s.spindle p).lines.wpr = level → exec (.wprLevelChange p level) s = .next s) ∧
      exec (.atnRising p) s = .next (serve s { s with
        events :=
          if (s.spindle p).state = .unconfigured then s.events
          else postInto p ⟨false, false, false, false, true⟩ (s.spindle p).state
            (if (s.spindle p).state = .faulted then (s.spindle p).cause else none) s.events })

/-- R34, R30, R89: the idle timer of a READY spindle at its deadline begins a spin-down; the age timer of a request at its deadline
marks it overdue, whatever its state, and stops; a timer that does not run does not expire.
An expiry moves the clock to its deadline (model's choice, assumption 3), and the idle timer's is taken whatever the arm does (model's
choice, assumption 33). -/
def Obligations.TimerExpiries : Prop :=
  ∀ s : State, s.inReset = false →
    (∀ p d, (s.spindle p).state = .ready → (s.spindle p).idleTimer = some d →
      Taken (.idleTimerExpiry p) s (State.enterSpinningDown { s with now := max s.now d } p)) ∧
    (∀ p, (s.spindle p).state ≠ .ready ∨ (s.spindle p).idleTimer = none → exec (.idleTimerExpiry p) s = .next s) ∧
    (∀ t r d, s.request t = some r → r.ageTimer = some d →
      Taken (.ageTimerExpiry t) s { s with
        now := max s.now d
        table := s.table.map fun q => if q.tag = t then { q with overdue := true, ageTimer := none } else q }) ∧
    (∀ t, (∀ r, s.request t = some r → r.ageTimer = none) → exec (.ageTimerExpiry t) s = .next s)

/-- R24, R26, R35: the Spindle Manager's evaluations. While the start condition holds with a spindle waiting, the head of the wait
list is started; otherwise, while the eviction condition holds with an eligible spindle, the one nearest the head of the activity
order enters SPINNING_DOWN; they go on until neither acts. The start itself: SPEN asserted, SPINNING_UP, the spin-up timer started,
both counts one higher. -/
def Obligations.BudgetSettles : Prop :=
  ∀ s : State,
    (s.canStart = true ↔ s.waitList ≠ [] ∧ s.spinningCount < s.params.spinLimit ∧ s.risingCount < s.params.surgeLimit) ∧
    (∀ p, s.evictChoice = some p ↔
      (s.waitList ≠ [] ∧ s.spinningCount = s.params.spinLimit ∧
        (allPorts.filter fun q => (s.spindle q).state == .spinningDown).length < s.waitList.length) ∧
      ∃ before after, s.activity = before ++ p :: after ∧ s.evictable p = true ∧ ∀ q ∈ before, s.evictable q = false) ∧
    (∀ p, s.evictable p = true ↔
      (s.spindle p).state = .ready ∧ (s.spindle p).pinned = false ∧ s.requestCount p = 0 ∧ (s.spindle p).arm.timer = none) ∧
    (s.canStart = true → s.evalBudget = s.startHead.evalBudget) ∧
    (∀ p, s.canStart = false → s.evictChoice = some p → s.evalBudget = (s.enterSpinningDown p).evalBudget) ∧
    (s.canStart = false → s.evictChoice = none → s.evalBudget = s) ∧
    s.evalBudget.canStart = false ∧ s.evalBudget.evictChoice = none ∧
    ∀ p rest, s.waitList = p :: rest → s.WaitListExact → s.TimersSound →
      s.startHead = { s with
        spindles := s.startHead.spindles
        waitList := rest
        table := s.table.map (Request.spindleEvaluated p true)
        events := stateChangePosted p .spinningUp none s.events } ∧
      s.startHead.spindle p = { s.spindle p with
        state := .spinningUp, spinUpTimer := some (s.now + s.params.spinupTimeout * 1000000) } ∧
      (∀ q : Port, q ≠ p → s.startHead.spindle q = s.spindle q) ∧
      (s.inReset = false → s.startHead.spen p = true) ∧
      s.startHead.spinningCount = s.spinningCount + 1 ∧ s.startHead.risingCount = s.risingCount + 1

/-- R185 to R188: a post for a spindle without a record creates one at the tail, with a count of 1; a post for a spindle with a record
merges into it in its place. -/
def Obligations.EventPosts : Prop :=
  ∀ (s : State) (p : Port) (kind : EventSet) (cause : Option Cause),
    cause = (if (s.spindle p).state = .faulted then (s.spindle p).cause else none) →
    s.post p kind = { s with events := (s.post p kind).events } ∧
    ((∀ r ∈ s.events, r.spindle ≠ p) →
      (s.post p kind).events = s.events ++ [⟨p, kind, (s.spindle p).state, cause, 1⟩]) ∧
    (∀ before r after, s.events = before ++ r :: after → r.spindle = p → (∀ q ∈ before, q.spindle ≠ p) →
      (s.post p kind).events = before ++
        ⟨p, ⟨r.set.stateChange || kind.stateChange, r.set.wprChange || kind.wprChange,
            r.set.positionLost || kind.positionLost, r.set.armLost || kind.armLost, r.set.attention || kind.attention⟩,
          (s.spindle p).state, cause, min 255 (r.count + 1)⟩ :: after)

/-! ### Marks and motions -/

/-- R45, R47, R48, R51, R52: a sector mark at the tracker. Not taken, or ignored UNTRACKED, it changes nothing there; with c below S−1
it raises c by 1; with c at S−1 it is an INDEX_LOST: one error counted, UNTRACKED with c 0, POSITION_LOST posted, SPINDLE evaluated in
READY, and TRACKING reported at the limit, which a READY spindle takes. The Channel takes the mark after it (model's order,
assumption 12). -/
def Obligations.SectorMarks : Prop :=
  ∀ (s : State) (p : Port), s.inReset = false →
    ∃ u : State, Taken (.sectorMark p) s (u.channelMark p false) ∧
      (¬ ((s.spindle p).state.spinning = true ∧ (s.spindle p).lines.spun = true ∧ (s.spindle p).tracker.tracked = true) →
        u = s) ∧
      ((s.spindle p).state.spinning = true → (s.spindle p).lines.spun = true → (s.spindle p).tracker.tracked = true →
        ((s.spindle p).tracker.sector + 1 < (s.spindle p).sectors →
          u = { s with spindles := u.spindles } ∧
          u.spindle p = { s.spindle p with
            tracker := { (s.spindle p).tracker with sector := (s.spindle p).tracker.sector + 1 } } ∧
          ∀ q : Port, q ≠ p → u.spindle q = s.spindle q) ∧
        ((s.spindle p).tracker.sector + 1 = (s.spindle p).sectors →
          ∃ w : State,
            w = { s with
              spindles := w.spindles
              table :=
                if (s.spindle p).state = .ready then s.table.map (Request.spindleEvaluated p true) else s.table
              events := postInto p ⟨false, false, true, false, false⟩ (s.spindle p).state none s.events } ∧
            w.spindle p = { s.spindle p with
              tracker := { (s.spindle p).tracker with
                tracked := false, sector := 0
                errors := min s.params.trackFaultLimit ((s.spindle p).tracker.errors + 1) } } ∧
            (∀ q : Port, q ≠ p → w.spindle q = s.spindle q) ∧
            u =
              if (s.spindle p).state = .ready ∧ s.params.trackFaultLimit ≤ (s.spindle p).tracker.errors + 1 then
                w.enterFaulted p .tracking
              else w))

/-- R46, R49, R50, R51, R56: an index mark, at its moment, at the tracker of a spindle past SPINNING_UP. After exactly S marks it is a
clean revolution, with the errors at 0 and the period measured; after fewer a SHORT_REVOLUTION, with one error counted, POSITION_LOST
posted and TRACKING at the limit in READY; UNTRACKED in READY it acquires the position again.
The mark's moment moves the clock, and the Channel takes the mark last (model's choices, assumptions 4 and 12); two marks at one moment
measure a period of 0, and without an index time the period stands (assumption 26). -/
def Obligations.IndexMarks : Prop :=
  ∀ (s : State) (p : Port) (moment : Nat), s.inReset = false → (s.spindle p).state ≠ .spinningUp →
    ∃ (now : Nat) (u : State), now = max s.now moment ∧ Taken (.indexMark p moment) s (u.channelMark p true) ∧
      (¬ ((s.spindle p).state.spinning = true ∧ (s.spindle p).lines.spun = true) → u = { s with now := now }) ∧
      ((s.spindle p).state.spinning = true → (s.spindle p).lines.spun = true →
        ((s.spindle p).tracker.tracked = true → (s.spindle p).tracker.sector + 1 = (s.spindle p).sectors →
          u = { s with now := now, spindles := u.spindles } ∧
          u.spindle p = { s.spindle p with
            tracker := ⟨true, 0, 0,
              match (s.spindle p).tracker.indexTime with
                | none => (s.spindle p).tracker.period
                | some since => some (min 16777215 (now - since)),
              some now⟩ } ∧
          ∀ q : Port, q ≠ p → u.spindle q = s.spindle q) ∧
        ((s.spindle p).tracker.tracked = true → (s.spindle p).tracker.sector + 1 ≠ (s.spindle p).sectors →
          ∃ w : State,
            w = { s with
              now := now
              spindles := w.spindles
              events := postInto p ⟨false, false, true, false, false⟩ (s.spindle p).state none s.events } ∧
            w.spindle p = { s.spindle p with
              tracker := { (s.spindle p).tracker with
                sector := 0, indexTime := some now
                errors := min s.params.trackFaultLimit ((s.spindle p).tracker.errors + 1) } } ∧
            (∀ q : Port, q ≠ p → w.spindle q = s.spindle q) ∧
            u =
              if (s.spindle p).state = .ready ∧ s.params.trackFaultLimit ≤ (s.spindle p).tracker.errors + 1 then
                w.enterFaulted p .tracking
              else w) ∧
        ((s.spindle p).tracker.tracked = false → (s.spindle p).state = .ready →
          u = { s with now := now, spindles := u.spindles, table := s.table.map (Request.spindleEvaluated p false) } ∧
          u.spindle p = { s.spindle p with
            tracker := { (s.spindle p).tracker with tracked := true, sector := 0, indexTime := some now } } ∧
          ∀ q : Port, q ≠ p → u.spindle q = s.spindle q) ∧
        ((s.spindle p).tracker.tracked = false → (s.spindle p).state = .spinningDown → u = { s with now := now }))

/-- R27, R32, R33, R46, R59: the index mark that finds SPUN asserted in SPINNING_UP: READY, the spin-up timer stopped, TRACKED at
sector 0, a restore issued, the tail of the activity order, the idle timer started for an unpinned spindle without requests, SPINDLE
evaluated and one STATE_CHANGE. With SPUN deasserted the mark has no effect.
The mark's moment moves the clock, and the Channel takes the mark last (model's choices, assumptions 4 and 12). -/
def Obligations.ReadyEntered : Prop :=
  ∀ (s : State) (p : Port) (moment : Nat), s.inReset = false → (s.spindle p).state = .spinningUp → s.TimersSound →
    ∃ (now : Nat) (u : State), now = max s.now moment ∧ Taken (.indexMark p moment) s (u.channelMark p true) ∧
      ((s.spindle p).lines.spun = false → u = { s with now := now }) ∧
      ((s.spindle p).lines.spun = true →
        u = { s with
          now := now
          spindles := u.spindles
          activity := s.activity.filter (· != p) ++ [p]
          table := s.table.map (Request.spindleEvaluated p false)
          events := stateChangePosted p .ready none s.events } ∧
        u.spindle p = { s.spindle p with
          state := .ready, spinUpTimer := none
          tracker := { (s.spindle p).tracker with tracked := true, sector := 0, indexTime := some now }
          arm := .restoring (now + s.params.seekTimeout * 1000)
          orders := { (s.spindle p).orders with restoreStrobes := (s.spindle p).orders.restoreStrobes + 1 }
          idleTimer :=
            if (s.spindle p).pinned = false ∧ s.requestCount p = 0 ∧ s.params.idleTimeout ≠ 0 then
              some (now + s.params.idleTimeout * 1000000)
            else none } ∧
        ∀ q : Port, q ≠ p → u.spindle q = s.spindle q)

/-- R123, R127, R138, R139, R142: a mark at the Channel. Marks of other spindles do not reach it, and in DATA it counts none. Searching
or in the verify pass every mark begins a slot whose header will be read and raises the mark count and an index mark the index count (held at 7, assumption 28), and at
(REV_LIMIT + 1) × S marks the search fails; FORMAT_WAIT counts sector marks so, and at the index mark reads WPR and opens the gate or
completes WRITE_PROTECTED. -/
def Obligations.ChannelMarks : Prop :=
  ∀ (s : State) (p : Port) (isIndex : Bool),
    ((∀ e, s.chan = some e → e.spindle ≠ p) → s.channelMark p isIndex = s) ∧
    ∀ e, s.chan = some e → e.spindle = p →
      ((∃ w k, e.phase = .readField w k) ∨ (∃ w k b, e.phase = .writeField w k b) ∨ (∃ w k, e.phase = .verifyField w k) →
        s.channelMark p isIndex = s) ∧
      (∀ counted : State,
        counted = { s with chan := some { e with
          searchMarks := e.searchMarks + 1
          slotMarked := true
          searchIndex := if isIndex then min 7 (e.searchIndex + 1) else e.searchIndex } } →
        (e.phase = .search ∨ (∃ reading, e.phase = .pass reading) ∨ (e.phase = .formatWait ∧ isIndex = false) →
          e.searchMarks + 1 < (s.params.revLimit + 1) * (s.spindle p).sectors → s.channelMark p isIndex = counted) ∧
        ((s.params.revLimit + 1) * (s.spindle p).sectors ≤ e.searchMarks + 1 →
          (e.phase = .search → e.pending = [] →
            s.channelMark p isIndex = counted.complete e.tag .sectorNotFound none) ∧
          (e.phase = .search → e.pending ≠ [] → s.channelMark p isIndex = counted.endWith .searchFailure) ∧
          ((∃ reading, e.phase = .pass reading) ∨ (e.phase = .formatWait ∧ isIndex = false) →
            s.channelMark p isIndex = counted.complete e.tag .sectorNotFound none))) ∧
      (e.phase = .formatWait → isIndex = true →
        ((s.spindle p).lines.wpr = true → s.channelMark p isIndex = s.complete e.tag .writeProtected none) ∧
        ((s.spindle p).lines.wpr = false →
          s.channelMark p isIndex = { s with chan := some { e with phase := .formatWrite true } }))

/-- R58 to R61, R63 to R65, R67: SKD settles the arm of a READY spindle at cylinder 0 or at the seek's target; SKE, or the motion timer
at its deadline, faults the spindle when it restores, and fails a seek: ARM_LOST, the owner charged one retry or completed
POSITION_ERROR with its budget at 0, and a restore issued. With no motion in flight, or out of READY, nothing is taken.
An expiry moves the clock to its deadline (model's choice, assumption 3). -/
def Obligations.MotionEnds : Prop :=
  ∀ (s : State) (p : Port), s.inReset = false →
    (∀ i : Instr, i = .skd p ∨ i = .ske p ∨ i = .motionTimerExpiry p →
      ((s.spindle p).state ≠ .ready ∨ (s.spindle p).arm = .unknown ∨ ∃ c, (s.spindle p).arm = .settled c) →
      exec i s = .next s) ∧
    ((s.spindle p).state = .ready →
      (∀ c, ((∃ d, (s.spindle p).arm = .restoring d) ∧ c = 0 ∨ ∃ o d, (s.spindle p).arm = .seeking c o d) →
        ∃ v : State, Taken (.skd p) s v ∧ v = { s with spindles := v.spindles } ∧
          v.spindle p = { s.spindle p with arm := .settled c } ∧ ∀ q : Port, q ≠ p → v.spindle q = s.spindle q) ∧
      (∀ d, (s.spindle p).arm = .restoring d →
        Taken (.ske p) s (s.enterFaulted p .restoreFailed) ∧
        Taken (.motionTimerExpiry p) s (State.enterFaulted { s with now := max s.now d } p .restoreFailed)) ∧
      (∀ c owner d (i : Instr) (now : Nat), (s.spindle p).arm = .seeking c owner d →
        (i = .ske p ∧ now = s.now ∨ i = .motionTimerExpiry p ∧ now = max s.now d) →
        ∃ w : State,
          w = { s with
            now := now
            spindles := w.spindles
            events := postInto p ⟨false, false, false, true, false⟩ .ready none s.events } ∧
          w.spindle p = { s.spindle p with arm := .unknown } ∧ (∀ q : Port, q ≠ p → w.spindle q = s.spindle q) ∧
          ((∀ t, owner = some t → s.request t = none) → Taken i s (w.issueRestore p)) ∧
          (∀ t r, owner = some t → s.request t = some r → r.budget ≠ 0 →
            Taken i s (State.issueRestore { w with table := retrySpent t s.table } p)) ∧
          (∀ t r, owner = some t → s.request t = some r → r.budget = 0 →
            Taken i s ((w.complete t .positionError none).issueRestore p)))) ∧
    ((s.spindle p).state = .ready →
      s.issueRestore p = { s with spindles := (s.issueRestore p).spindles } ∧
      (s.issueRestore p).spindle p = { s.spindle p with
        arm := .restoring (s.now + s.params.seekTimeout * 1000)
        orders := { (s.spindle p).orders with restoreStrobes := (s.spindle p).orders.restoreStrobes + 1 } } ∧
      ∀ q : Port, q ≠ p → (s.issueRestore p).spindle q = s.spindle q)

/-! ### The Request Table -/

/-- R76 to R79 and Table 5-2: the refusals of a SUBMIT, in their order. -/
def Obligations.SubmitRefused : Prop :=
  ∀ (s : State) (seq : Byte) (m : SubmitFields), s.canHandle (.submit seq (.fields m)) = true →
    (¬ SubmitLegal m → Refused (.submit seq (.fields m)) s 0x01 seq .badField) ∧
    (SubmitLegal m → ∀ (t : Tag) (p : Port), m.tag.toNat = t.val → m.spindle.toNat = p.val →
      ((s.request t).isSome = true → Refused (.submit seq (.fields m)) s 0x01 seq .tagInUse) ∧
      (s.request t = none →
        ((s.spindle p).state = .unconfigured → Refused (.submit seq (.fields m)) s 0x01 seq .noSpindle) ∧
        ((s.spindle p).state = .absent → Refused (.submit seq (.fields m)) s 0x01 seq .spindleAbsent) ∧
        ((s.spindle p).state = .faulted → Refused (.submit seq (.fields m)) s 0x01 seq .spindleFaulted) ∧
        ((s.spindle p).state ≠ .unconfigured → (s.spindle p).state ≠ .absent → (s.spindle p).state ≠ .faulted →
          ((∀ g, (s.spindle p).geometry = some g → ¬ SubmitFits m g) →
            Refused (.submit seq (.fields m)) s 0x01 seq .range) ∧
          (∀ g, (s.spindle p).geometry = some g → SubmitFits m g → m.kind.toNat = 2 ∨ m.kind.toNat = 4 →
            (s.spindle p).lines.wpr = true →
            Refused (.submit seq (.fields m)) s 0x01 seq .writeProtected))))

/-- R72, R73, R80, R81, R84, R87, R23, R89: a SUBMIT that passes the five checks is admitted: its record joins the admission list's
tail with the values of Table 5-1, its age timer running and its hold reasons evaluated; its demand is registered with its
spindle. -/
def Obligations.SubmitAdmitted : Prop :=
  ∀ (s : State) (seq : Byte) (m : SubmitFields) (t : Tag) (p : Port) (g : Geometry) (kind : Kind),
    s.canHandle (.submit seq (.fields m)) = true → SubmitLegal m → m.tag.toNat = t.val → m.spindle.toNat = p.val →
    kindByte kind = m.kind → s.request t = none → (s.spindle p).state ≠ .unconfigured → (s.spindle p).state ≠ .absent →
    (s.spindle p).state ≠ .faulted → (s.spindle p).geometry = some g → SubmitFits m g →
    (m.kind.toNat = 2 ∨ m.kind.toNat = 4 → (s.spindle p).lines.wpr = false) → s.TimersSound →
    ∃ (v : State) (r : Request), Accepted (.submit seq (.fields m)) s 0x01 seq v ∧
      r = (Request.withHolds
        { tag := t, kind := kind, spindle := p, start := ⟨m.cylinder.toNat, m.surface.toNat, m.sector.toNat⟩,
          count := if m.kind.toNat = 4 then g.sectors else m.count.toNat,
          flags := ⟨m.flags.getLsbD 0, m.flags.getLsbD 1, m.flags.getLsbD 2, m.flags.getLsbD 3, m.flags.getLsbD 4⟩,
          fill := m.fill, admitted := s.now, status := .held, holds := ⟨false, false, false, false⟩,
          next := ⟨m.cylinder.toNat, m.surface.toNat, m.sector.toNat⟩, done := 0, suspects := 0, firstSuspect := none,
          retries := 0, budget := if m.flags.getLsbD 4 then 0 else s.params.retryLimit, overdue := false,
          cancelPending := false, frontier := 0, staged := [], ageTimer := some (s.now + s.params.ageLimit * 1000) }
        ⟨!((s.spindle p).state == .ready && (s.spindle p).tracker.tracked),
          s.table.any (fun q => q.spindle == p && (m.flags.getLsbD 0 || q.flags.barrier)), m.kind.toNat == 2, false⟩) ∧
      v = { s.popInbound with
        spindles := v.spindles
        waitList := if (s.spindle p).state = .parked then s.waitList ++ [p] else s.waitList
        table :=
          (if (s.spindle p).state = .parked then s.table.map (Request.spindleEvaluated p true) else s.table) ++ [r]
        events := if (s.spindle p).state = .parked then stateChangePosted p .spinWait none s.events else s.events } ∧
      v.spindle p = { s.spindle p with
        state := if (s.spindle p).state = .parked then .spinWait else (s.spindle p).state
        idleTimer := if (s.spindle p).state = .ready then none else (s.spindle p).idleTimer
        respin := if (s.spindle p).state = .spinningDown then true else (s.spindle p).respin } ∧
      ∀ q : Port, q ≠ p → v.spindle q = s.spindle q

/-- R154 to R156 and Table 8-3: WDATA. Its refusals in their order, any index among them once the frontier has reached the count; on
acceptance one buffer is taken, the payload joins the staged list's tail, the frontier rises by 1, and NO_DATA is evaluated.
That the depth counts the staged list alone is the model's choice where R158 differs from R155 (assumption 34). -/
def Obligations.WdataJudged : Prop :=
  ∀ (s : State) (seq : Byte) (m : WdataFields), s.canHandle (.wdata seq (.fields m)) = true →
    (31 < m.tag.toNat ∨ 255 < m.index.toNat → Refused (.wdata seq (.fields m)) s 0x02 seq .badField) ∧
    ∀ t : Tag, m.tag.toNat = t.val → m.index.toNat ≤ 255 →
      (s.request t = none → Refused (.wdata seq (.fields m)) s 0x02 seq .noSuchTag) ∧
      ∀ r, s.request t = some r →
        (r.cancelPending = true → Refused (.wdata seq (.fields m)) s 0x02 seq .cancelling) ∧
        (r.cancelPending = false →
          (r.kind ≠ .write → Refused (.wdata seq (.fields m)) s 0x02 seq .badField) ∧
          (r.kind = .write →
            (m.index.toNat ≠ r.frontier ∨ r.count ≤ r.frontier ∨ s.params.stageDepth ≤ r.staged.length →
              Refused (.wdata seq (.fields m)) s 0x02 seq .window) ∧
            (m.index.toNat = r.frontier → r.frontier < r.count → r.staged.length < s.params.stageDepth →
              (s.free ≤ s.params.readReserve → Refused (.wdata seq (.fields m)) s 0x02 seq .noBuffer) ∧
              (s.params.readReserve < s.free → s.TagsDistinct →
                Accepted (.wdata seq (.fields m)) s 0x02 seq { s.popInbound with
                  free := s.free - 1
                  table := s.table.map fun q =>
                    if q.tag = t then
                      Request.withHolds
                        { q with staged := q.staged ++ [⟨t, m.index.toNat, m.payload⟩], frontier := q.frontier + 1 }
                        { q.holds with noData := false }
                    else q }))))

/-- R91 to R93, R143: CANCEL. Its refusals in their order; a HELD or QUEUED request completes CANCELLED at once; the ACTIVE one has
cancel pending set, which the Channel takes at once in SEARCH, in FORMAT_WAIT, and in FORMAT_WRITE between slots after counting the
slot. -/
def Obligations.CancelJudged : Prop :=
  ∀ (s : State) (seq b : Byte), s.canHandle (.cancel seq (.fields b)) = true →
    (31 < b.toNat → Refused (.cancel seq (.fields b)) s 0x03 seq .badField) ∧
    ∀ t : Tag, b.toNat = t.val →
      (s.request t = none → Refused (.cancel seq (.fields b)) s 0x03 seq .noSuchTag) ∧
      ∀ r, s.request t = some r →
        (r.cancelPending = true → Refused (.cancel seq (.fields b)) s 0x03 seq .cancelling) ∧
        (r.cancelPending = false →
          (r.status ≠ .active →
            Accepted (.cancel seq (.fields b)) s 0x03 seq (s.popInbound.complete t .cancelled none)) ∧
          (∀ e, r.status = .active → s.chan = some e → e.tag = t →
            ∃ v : State,
              v = { s.popInbound with
                table := s.table.map fun q => if q.tag = t then { q with cancelPending := true } else q } ∧
              (e.phase = .search ∨ e.phase = .formatWait →
                Accepted (.cancel seq (.fields b)) s 0x03 seq (v.complete t .cancelled none)) ∧
              (e.phase = .formatWrite false →
                Accepted (.cancel seq (.fields b)) s 0x03 seq ((v.withSectorDone t).complete t .cancelled none)) ∧
              (e.phase ≠ .search → e.phase ≠ .formatWait → e.phase ≠ .formatWrite false →
                Accepted (.cancel seq (.fields b)) s 0x03 seq v)))

/-- R95 to R98, R32, R33, R66, R88, R145, R160: the completion of a request. Its DONE joins the Stream, with the failing address and
the fault cause where Table 5-6 has them; its staged buffers return, and the channel's when it is engaged, which goes to IDLE; its
seek goes on without an owner; its slot is freed and BARRIER evaluated on its spindle, which moves to the tail of the activity order
and starts its idle timer when it is READY, unpinned and idle. A free slot is completed by nothing. -/
def Obligations.Completion : Prop :=
  ∀ (s : State) (t : Tag) (o : Outcome) (cause : Option Cause),
    (s.request t = none → s.complete t o cause = s) ∧
    ∀ (r : Request) (v : State) (returned : Nat), s.request t = some r → s.TagsDistinct → v = s.complete t o cause →
      returned = r.staged.length +
        (match s.chan with
          | some e => if e.tag = t then e.buffers else 0
          | none => 0) →
      v = { s with
        spindles := v.spindles
        activity := s.activity.filter (· != r.spindle) ++ [r.spindle]
        table := barriersEvaluated r.spindle
          ((s.table.filter fun q => q.tag != t).map (Request.afterReturn returned))
        chan := if s.chan.any (fun e => e.tag == t) then none else s.chan
        free := s.free + returned
        stream := s.stream ++ [doneOf r o cause
          (if o = .dataCheck ∨ o = .sectorNotFound ∨ o = .positionError ∨ o = .verifyMismatch ∨ o = .writeProtected then
            some r.next
          else none)] } ∧
      v.spindle r.spindle = { s.spindle r.spindle with
        arm :=
          (match (s.spindle r.spindle).arm with
            | .seeking c owner d => .seeking c (if owner = some t then none else owner) d
            | arm => arm)
        idleTimer :=
          if (s.spindle r.spindle).state = .ready ∧ (s.spindle r.spindle).pinned = false ∧
              s.requestCount r.spindle = 1 ∧ s.params.idleTimeout ≠ 0 then
            some (s.now + s.params.idleTimeout * 1000000)
          else (s.spindle r.spindle).idleTimer } ∧
      ∀ q : Port, q ≠ r.spindle → v.spindle q = s.spindle q

/-- R86, R136, R83 to R85: a release. The channel returns to IDLE; the request leaves ACTIVE with all four hold reasons evaluated, HELD
with one and QUEUED without; with a cancel pending it completes CANCELLED instead. -/
def Obligations.Release : Prop :=
  ∀ (s : State) (e : Engagement) (r : Request) (noBuffer : Bool), s.chan = some e → s.request e.tag = some r →
    r.status = .active → s.TagsDistinct →
    (r.cancelPending = true →
      s.release e.tag noBuffer = (s.channelClosed e).complete e.tag .cancelled none) ∧
    (r.cancelPending = false → ∀ h : Holds,
      h = r.reasons (!((s.spindle r.spindle).state == .ready && (s.spindle r.spindle).tracker.tracked)) noBuffer
        (s.table.takeWhile fun q => q.tag != e.tag) →
      s.release e.tag noBuffer = { s.channelClosed e with
        table := s.table.map fun q =>
          if q.tag = e.tag then
            { q with
              holds := h, status := if h.spindle || h.barrier || h.noData || h.noBuffer then .held else .queued }
          else q.afterReturn e.buffers })

/-! ### Scheduling -/

/-- R104, R107 to R112, R58, R62: the seek choices. An arm that is not SETTLED on a READY, TRACKED spindle without an ACTIVE request
receives none. For an eligible one: the oldest overdue QUEUED request decides alone; else a request on cylinder keeps the arm; else the
oldest URGENT one, else the nearest, the oldest of equals, has the arm seek to its cylinder as owner. The choices of the arms are
independent, and none is made while the choice hold is set. -/
def Obligations.SeekChoices : Prop :=
  ∀ s : State,
    (s.choiceHold = true → s.reevaluate = s) ∧
    (s.choiceHold = false → ∀ p : Port, s.reevaluate.spindle p = (s.chooseSeek p).spindle p) ∧
    (∀ p : Port,
      ((s.spindle p).state ≠ .ready ∨ (s.spindle p).tracker.tracked = false ∨ (∀ c, (s.spindle p).arm ≠ .settled c) ∨
        (∃ q ∈ s.table, q.spindle = p ∧ q.status = .active)) → s.chooseSeek p = s) ∧
    ∀ (p : Port) (a : Nat) (queued : List Request), (s.spindle p).state = .ready → (s.spindle p).tracker.tracked = true →
      (s.spindle p).arm = .settled a → (∀ q ∈ s.table, q.spindle = p → q.status ≠ .active) →
      queued = (s.table.filter fun q => q.spindle == p && q.status == .queued) →
      (queued = [] → s.chooseSeek p = s) ∧
      (∀ before r after, queued = before ++ r :: after → r.overdue = true → (∀ q ∈ before, q.overdue = false) →
        s.chooseSeek p = if r.next.cylinder = a then s else s.issueSeek p r.next.cylinder r.tag) ∧
      ((∀ q ∈ queued, q.overdue = false) →
        ((∃ q ∈ queued, q.next.cylinder = a) → s.chooseSeek p = s) ∧
        ((∀ q ∈ queued, q.next.cylinder ≠ a) →
          (∀ before r after, queued = before ++ r :: after → r.flags.urgent = true →
            (∀ q ∈ before, q.flags.urgent = false) → s.chooseSeek p = s.issueSeek p r.next.cylinder r.tag) ∧
          (∀ before r after, queued = before ++ r :: after → (∀ q ∈ queued, q.flags.urgent = false) →
            (∀ q ∈ before, ((r.next.cylinder : Int) - a).natAbs < ((q.next.cylinder : Int) - a).natAbs) →
            (∀ q ∈ after, ((r.next.cylinder : Int) - a).natAbs ≤ ((q.next.cylinder : Int) - a).natAbs) →
            s.chooseSeek p = s.issueSeek p r.next.cylinder r.tag))) ∧
      ∀ (target : Nat) (owner : Tag),
        s.issueSeek p target owner = { s with spindles := (s.issueSeek p target owner).spindles } ∧
        (s.issueSeek p target owner).spindle p = { s.spindle p with
          arm := .seeking target (some owner) (s.now + s.params.seekTimeout * 1000)
          orders := { (s.spindle p).orders with
            cylinderLines := target, seekStrobes := (s.spindle p).orders.seekStrobes + 1 } } ∧
        ∀ q : Port, q ≠ p → (s.issueSeek p target owner).spindle q = s.spindle q

/-- R113 to R117, R124: the channel choice. With the Channel IDLE and a candidate: the oldest overdue candidate wins; with none
overdue, the nearest of the URGENT candidates, or of all when none is URGENT, a tie going to the lower-numbered spindle and then to the
older request. The winner is engaged with the record of R124 and becomes ACTIVE. Otherwise nothing is granted. -/
def Obligations.ChannelChoice : Prop :=
  ∀ s : State, s.TagsDistinct →
    (∀ e, s.chan = some e → s.chooseChannel = s) ∧
    ((∀ q ∈ s.table, ¬ s.IsCandidate q) → s.chooseChannel = s) ∧
    (s.chan = none → ∀ before r after, s.table = before ++ r :: after → s.IsCandidate r →
      (r.overdue = true → (∀ q ∈ before, s.IsCandidate q → q.overdue = false) → s.chooseChannel = s.engaged r) ∧
      ((∀ q ∈ s.table, s.IsCandidate q → q.overdue = false) →
        (r.flags.urgent = true →
          (∀ q ∈ before, s.IsCandidate q → q.flags.urgent = true → s.Nearer r q) →
          (∀ q ∈ after, s.IsCandidate q → q.flags.urgent = true → ¬ s.Nearer q r) → s.chooseChannel = s.engaged r) ∧
        ((∀ q ∈ s.table, s.IsCandidate q → q.flags.urgent = false) → (∀ q ∈ before, s.IsCandidate q → s.Nearer r q) →
          (∀ q ∈ after, s.IsCandidate q → ¬ s.Nearer q r) → s.chooseChannel = s.engaged r)))

/-! ### The Channel -/

/-- R4, R123, R125 to R131, R136, R139, R143: a header read. Out of SEARCH and of the verify pass between sectors it is not taken, nor of a
slot whose mark was taken before the search began. In SEARCH a header of another sector, UNFORMATTED or INVALID is passed over, at the revolution limit as the last one; a FORMATTED header of another
cylinder or surface is a position error; the target's header begins the data phase by kind: a READ takes a buffer or is released for
want of one, a WRITE takes its staged head with WPR deasserted, a VERIFY takes none. In the pass a pending cancel is taken first;
a header after the last one to be judged is not judged, and fails the pass.
What is read is what is recorded or what the command says (model's choice, assumption 8). The model's readings: a matched last header
at which the pool is empty is a release, and one at which WPR is asserted ends WRITE_PROTECTED (assumption 13); one header is read under
each mark, so that a second one is not taken (assumption 36); when the pass fails after its last header has begun a read (model's
choice, assumption 37). -/
def Obligations.HeaderReads : Prop :=
  ∀ (s : State) (slot : Nat) (read : HeaderRead), s.inReset = false →
    (s.chan = none ∨ (∃ e, s.chan = some e ∧ (e.slotMarked = false ∨ (e.phase ≠ .search ∧ e.phase ≠ .pass none))) →
      exec (.headerRead slot read) s = .next s) ∧
    ∀ (e : Engagement) (r : Request) (h : Option (Word × Word × Word)) (u : State), s.chan = some e → s.request e.tag = some r →
      e.slotMarked = true → u = { s with chan := some { e with slotMarked := false } } →
      h = (match read with
        | .recorded =>
          if (mediaRead s.media (placeKey e.spindle e.target.cylinder e.surface slot)).sync then
            (mediaRead s.media (placeKey e.spindle e.target.cylinder e.surface slot)).header
          else none
        | .words w0 w1 w2 => some (w0, w1, w2)
        | .unrecovered => none) →
      (e.phase = .search →
        ((∀ a, classifyHeader h = .formatted a →
            a.cylinder = e.target.cylinder ∧ a.surface = e.target.surface ∧ a.sector ≠ e.target.sector) →
          (e.searchIndex < s.params.revLimit → exec (.headerRead slot read) s = .next u) ∧
          (s.params.revLimit ≤ e.searchIndex → Taken (.headerRead slot read) s (u.endWith .searchFailure))) ∧
        (∀ a, classifyHeader h = .formatted a → a.cylinder ≠ e.target.cylinder ∨ a.surface ≠ e.target.surface →
          Taken (.headerRead slot read) s (u.endWith .positionError)) ∧
        (∀ w0 w1 w2, h = some (w0, w1, w2) →
          classifyHeader h = .formatted ⟨e.target.cylinder, e.target.surface, e.target.sector⟩ →
          (r.kind = .read → s.free = 0 → Taken (.headerRead slot read) s (u.release e.tag true)) ∧
          (r.kind = .read → s.free ≠ 0 →
            Taken (.headerRead slot read) s
              { u with free := s.free - 1, chan := some { e with slotMarked := false, phase := .readField w0 slot } }) ∧
          (r.kind = .verify →
            Taken (.headerRead slot read) s { u with chan := some { e with slotMarked := false, phase := .verifyField w0 slot } }) ∧
          (r.kind = .write → (s.spindle e.spindle).lines.wpr = true →
            Taken (.headerRead slot read) s (u.endWith .writeProtected)) ∧
          (∀ b rest, r.kind = .write → (s.spindle e.spindle).lines.wpr = false → r.staged = b :: rest →
            Taken (.headerRead slot read) s { u with
              chan := some { e with slotMarked := false, phase := .writeField w0 slot b }
              table := s.table.map fun q => if q.tag = e.tag then { q with staged := rest } else q }))) ∧
      (e.phase = .pass none →
        (r.cancelPending = true → Taken (.headerRead slot read) s (u.complete e.tag .cancelled none)) ∧
        (r.cancelPending = false → s.params.revLimit ≤ e.searchIndex → e.lastJudged = true →
          Taken (.headerRead slot read) s (u.complete e.tag .sectorNotFound none)) ∧
        (r.cancelPending = false → e.searchIndex < s.params.revLimit ∨ e.lastJudged = false →
          ∀ j : State,
            j = { s with
              chan := some { e with slotMarked := false, lastJudged := decide (s.params.revLimit ≤ e.searchIndex) } } →
            ((∀ a, classifyHeader h = .formatted a →
                a.cylinder = e.target.cylinder ∧ a.surface = e.target.surface ∧ a.sector ≠ e.target.sector) →
              (e.searchIndex < s.params.revLimit → exec (.headerRead slot read) s = .next j) ∧
              (s.params.revLimit ≤ e.searchIndex →
                Taken (.headerRead slot read) s (j.complete e.tag .sectorNotFound none))) ∧
            (∀ a, classifyHeader h = .formatted a → a.cylinder ≠ e.target.cylinder ∨ a.surface ≠ e.target.surface →
              Taken (.headerRead slot read) s ((j.armLost e.spindle).complete e.tag .positionError none)) ∧
            (∀ w0 w1 w2, h = some (w0, w1, w2) →
              classifyHeader h = .formatted ⟨e.target.cylinder, e.target.surface, e.target.sector⟩ →
              Taken (.headerRead slot read) s { s with
                chan := some { e with
                  slotMarked := false, lastJudged := decide (s.params.revLimit ≤ e.searchIndex)
                  phase := .pass (some (w0, slot)) } })))

/-- R131 to R133, R149: the end of a data field read for a READ or a VERIFY request. Good, or failed with the budget spent and TOLERATE
set: a READ's RDATA joins the Stream with its suspect mark, a suspect sector is noted, the sector is counted and the indices advance;
failed with budget left: a READ's buffer returns and one retry is spent; failed otherwise: DATA_CHECK.
What is read is what is recorded or what the command says (model's choice, assumption 8). -/
def Obligations.ReadFieldEnds : Prop :=
  ∀ (s : State) (read : FieldRead) (e : Engagement) (r : Request) (w0 : Word) (slot : Nat) (data : List Word)
    (check : Option Word),
    s.inReset = false → s.chan = some e → s.request e.tag = some r →
    (e.phase = .readField w0 slot ∨ e.phase = .verifyField w0 slot) →
    (data, check) = (match read with
      | .recorded =>
        ((mediaRead s.media (placeKey e.spindle e.target.cylinder e.surface slot)).data,
          (mediaRead s.media (placeKey e.spindle e.target.cylinder e.surface slot)).check)
      | .words d c => (d, c)) →
    (∀ (delivered : Bool → State), (∀ suspect, delivered suspect = { s with
        chan := some { e with index := e.index + 1, burst := e.burst + 1, phase := .search }
        stream :=
          if e.phase = .readField w0 slot then
            s.stream ++ [.rdata ⟨e.tag, e.index, bytesOfWords data⟩ e.spindle e.target suspect]
          else s.stream }) →
      (check = some (checkWord data w0) →
        Taken (.dataFieldEnd read) s (((delivered false).withSectorDone e.tag).afterSector false)) ∧
      (check ≠ some (checkWord data w0) → r.budget = 0 → r.flags.tolerate = true →
        Taken (.dataFieldEnd read) s ((State.withSectorDone { delivered true with
          table := s.table.map fun q =>
            if q.tag = e.tag then
              { q with suspects := q.suspects + 1, firstSuspect := some (q.firstSuspect.getD e.index) }
            else q } e.tag).afterSector false))) ∧
    (check ≠ some (checkWord data w0) → r.budget ≠ 0 →
      Taken (.dataFieldEnd read) s (State.afterSector { s with
        chan := some { e with phase := .search }
        free := s.free + e.phase.buffers
        table := retrySpent e.tag (s.table.map (Request.afterReturn e.phase.buffers)) } true)) ∧
    (check ≠ some (checkWord data w0) → r.budget = 0 → r.flags.tolerate = false →
      Taken (.dataFieldEnd read) s (s.complete e.tag .dataCheck none))

/-- R5, R6, R10, R130, R133, R149, R158: the end of a written data field. The slot's data words and check word are the buffer's under the
matched header, its sync field, its header and every other slot stand. Under a stop request the channel stops; with VERIFY_AFTER the sector joins the
verify-pending list uncounted; otherwise it is counted and its buffer returns. -/
def Obligations.WriteFieldEnds : Prop :=
  ∀ (s : State) (read : FieldRead) (e : Engagement) (r : Request) (w0 : Word) (slot : Nat) (b : Buffer),
    s.inReset = false → s.chan = some e → s.request e.tag = some r → e.phase = .writeField w0 slot b →
    ∃ written : State,
      written = { s with media := written.media } ∧
      (∀ k, mediaRead written.media k =
        if k = placeKey e.spindle e.target.cylinder e.surface slot then
          { mediaRead s.media k with
            gap := true, data := wordsOfBytes b.payload, check := some (checkWord (wordsOfBytes b.payload) w0)
            trailing := true }
        else mediaRead s.media k) ∧
      (s.stopRequest = true → Taken (.dataFieldEnd read) s (written.channelClosed e)) ∧
      (s.stopRequest = false → r.flags.verifyAfter = true →
        Taken (.dataFieldEnd read) s (State.afterSector { written with
          chan := some { e with
            index := e.index + 1, burst := e.burst + 1, phase := .search
            pending := e.pending ++ [⟨e.index, b, checkWord (wordsOfBytes b.payload) w0⟩] } } false)) ∧
      (s.stopRequest = false → r.flags.verifyAfter = false →
        Taken (.dataFieldEnd read) s (State.afterSector { written.withSectorDone e.tag with
          chan := some { e with index := e.index + 1, burst := e.burst + 1, phase := .search }
          free := s.free + 1
          table := (written.withSectorDone e.tag).table.map (Request.afterReturn 1) } false))

/-- R134, R135 and Table 7-3: the decisions after a sector end, the first whose condition holds. -/
def Obligations.SectorDecisions : Prop :=
  ∀ (s : State) (e : Engagement) (r : Request) (retry : Bool) (next : Addr), s.chan = some e → s.request e.tag = some r →
    next = s.addressOfIndex r e.index →
    (r.cancelPending = true → s.afterSector retry = s.complete e.tag .cancelled none) ∧
    (r.cancelPending = false →
      (retry = true → s.afterSector true = { s with chan := some (e.searching e.target) }) ∧
      (retry = false →
        (e.index = r.count → s.afterSector false = s.endWith .runEnd) ∧
        (e.index ≠ r.count →
          (s.params.burstLimit ≤ e.burst → s.afterSector false = s.endWith .burstLimit) ∧
          (e.burst < s.params.burstLimit →
            (next.cylinder = e.target.cylinder → next.surface ≠ e.target.surface →
              s.afterSector false = s.endWith .trackEnd) ∧
            (next.cylinder ≠ e.target.cylinder → s.afterSector false = s.endWith .cylinderEnd) ∧
            (next.cylinder = e.target.cylinder → next.surface = e.target.surface →
              (r.kind = .write → r.staged = [] → s.afterSector false = s.endWith .stagedEmpty) ∧
              (r.kind ≠ .write ∨ r.staged ≠ [] →
                s.afterSector false = { s with chan := some (e.searching next) }))))))

/-- R68, R127, R128, R130, R134 to R138 and Table 7-4: the endings. With sectors pending, a verify pass begins for the first of them and
the ending is deferred; with none, it is taken at once: the completion of the run by its suspect count, a release, a head switch to the
next surface, or the completion or the position error it stands for. -/
def Obligations.Endings : Prop :=
  ∀ (s : State) (e : Engagement) (r : Request) (ending : Ending), s.chan = some e → s.request e.tag = some r →
    (∀ entry rest, e.pending = entry :: rest → s.endWith ending = s.passBegun e r entry ending) ∧
    (e.pending = [] → s.endWith ending = s.carryOut e ending) ∧
    s.carryOut e .runEnd = s.complete e.tag r.endOutcome none ∧
    s.carryOut e .burstLimit = s.release e.tag false ∧ s.carryOut e .cylinderEnd = s.release e.tag false ∧
    s.carryOut e .stagedEmpty = s.release e.tag false ∧
    (r.kind = .write → r.staged = [] → s.carryOut e .trackEnd = s.release e.tag false) ∧
    (r.kind ≠ .write ∨ r.staged ≠ [] →
      s.carryOut e .trackEnd = { s with chan := some (e.searching (s.addressOfIndex r e.index)) }) ∧
    s.carryOut e .searchFailure = s.complete e.tag .sectorNotFound none ∧
    s.carryOut e .writeProtected = s.complete e.tag .writeProtected none ∧
    (r.budget = 0 →
      s.carryOut e .positionError = (s.armLost e.spindle).complete e.tag .positionError none) ∧
    (r.budget ≠ 0 →
      s.carryOut e .positionError =
        State.release { s.armLost e.spindle with table := retrySpent e.tag s.table } e.tag false) ∧
    ((s.spindle e.spindle).state = .ready →
      s.armLost e.spindle = { s with
        spindles := (s.armLost e.spindle).spindles
        events := postInto e.spindle ⟨false, false, false, true, false⟩ .ready none s.events } ∧
      (s.armLost e.spindle).spindle e.spindle = { s.spindle e.spindle with
        arm := .restoring (s.now + s.params.seekTimeout * 1000)
        orders := { (s.spindle e.spindle).orders with
          restoreStrobes := (s.spindle e.spindle).orders.restoreStrobes + 1 } } ∧
      ∀ q : Port, q ≠ e.spindle → (s.armLost e.spindle).spindle q = s.spindle q)

/-- R140, R141, R143, R149: the end of a data field read in the verify pass. Under a stop request the channel stops; with any two of the
check word read, the one computed and the one stored different, VERIFY_MISMATCH; with all equal the entry's buffer returns and the
sector is counted, a pending cancel is taken, and the pass goes on to the next entry, or, clean, carries out the deferred ending.
What is read is what is recorded or what the command says, and a stop is taken before a cancel (model's choices, assumptions 8 and
20). -/
def Obligations.VerifyPass : Prop :=
  ∀ (s : State) (read : FieldRead) (e : Engagement) (r : Request) (w0 : Word) (slot : Nat) (data : List Word)
    (check : Option Word) (entry : PendingEntry) (rest : List PendingEntry),
    s.inReset = false → s.chan = some e → s.request e.tag = some r → s.TagsDistinct →
    e.phase = .pass (some (w0, slot)) → e.pending = entry :: rest →
    (data, check) = (match read with
      | .recorded =>
        ((mediaRead s.media (placeKey e.spindle e.target.cylinder e.surface slot)).data,
          (mediaRead s.media (placeKey e.spindle e.target.cylinder e.surface slot)).check)
      | .words d c => (d, c)) →
    (s.stopRequest = true → Taken (.dataFieldEnd read) s (s.channelClosed e)) ∧
    (s.stopRequest = false →
      (¬ (checkWord data w0 = entry.check ∧ check = some (checkWord data w0)) →
        Taken (.dataFieldEnd read) s (s.complete e.tag .verifyMismatch none)) ∧
      (checkWord data w0 = entry.check → check = some (checkWord data w0) → ∃ counted : State,
        counted = State.withSectorDone { s with
          chan := some { e with pending := rest, phase := .pass none }
          free := s.free + 1
          table := s.table.map (Request.afterReturn 1) } e.tag ∧
        (r.cancelPending = true → Taken (.dataFieldEnd read) s (counted.complete e.tag .cancelled none)) ∧
        (r.cancelPending = false →
          (∀ second more, rest = second :: more →
            Taken (.dataFieldEnd read) s { counted with chan := some { e with
              pending := rest, phase := .pass none, target := s.addressOfIndex r second.index } }) ∧
          (∀ ending, rest = [] → e.deferred = some ending →
            Taken (.dataFieldEnd read) s (State.carryOut
              { counted with chan := some { e.searching (s.addressOfIndex r e.index) with pending := [], deferred := none } }
              e ending)))))

/-- R11, R142, R149: a format slot. Its trailing gap leaves the slot written whole with the gate closed until the next mark; a stop is
taken there, and a cancel after counting the slot. The mark that follows ends the slot: it is counted, and the request completes
CANCELLED, or COMPLETE with every slot done, or SECTOR_NOT_FOUND at an index mark that came early, or goes on with the next slot.
The model's choices: a stop and a cancel at one slot end, the stop first (assumption 20); a mark that comes with the gate still open finds
the slot written whole (assumption 39). -/
def Obligations.FormatSlots : Prop :=
  ∀ (s : State) (e : Engagement) (r : Request) (gateOpen : Bool), s.inReset = false → s.chan = some e →
    s.request e.tag = some r → s.TagsDistinct → e.phase = .formatWrite gateOpen →
    ∃ written : State,
      written = { s with media := written.media } ∧
      (gateOpen = false → written = s) ∧
      (gateOpen = true → ∀ k, mediaRead written.media k =
        if k = placeKey e.spindle e.target.cylinder e.surface e.index then
          ⟨true, some (formatHeader e.target), true, List.replicate 256 (r.fill.getD 0),
            some (checkWord (List.replicate 256 (r.fill.getD 0)) (headerWord0 e.target)), true⟩
        else mediaRead s.media k) ∧
      (gateOpen = true →
        (s.stopRequest = true → Taken .formatSlotWritten s (written.channelClosed e)) ∧
        (s.stopRequest = false → r.cancelPending = true →
          Taken .formatSlotWritten s ((written.withSectorDone e.tag).complete e.tag .cancelled none)) ∧
        (s.stopRequest = false → r.cancelPending = false →
          Taken .formatSlotWritten s { written with chan := some { e with phase := .formatWrite false } })) ∧
      (gateOpen = false → exec .formatSlotWritten s = .next s) ∧
      ∀ isIndex : Bool,
        (s.stopRequest = true → s.channelMark e.spindle isIndex = written.channelClosed e) ∧
        (s.stopRequest = false →
          (r.cancelPending = true →
            s.channelMark e.spindle isIndex = (written.withSectorDone e.tag).complete e.tag .cancelled none) ∧
          (r.cancelPending = false → r.done + 1 = r.count →
            s.channelMark e.spindle isIndex = (written.withSectorDone e.tag).complete e.tag r.endOutcome none) ∧
          (r.cancelPending = false → r.done + 1 ≠ r.count → isIndex = true →
            s.channelMark e.spindle isIndex = (written.withSectorDone e.tag).complete e.tag .sectorNotFound none) ∧
          (r.cancelPending = false → r.done + 1 ≠ r.count → isIndex = false →
            s.channelMark e.spindle isIndex = { written.withSectorDone e.tag with
              chan := some { e with
                index := e.index + 1, burst := e.burst + 1, phase := .formatWrite true
                target := s.addressOfIndex r (e.index + 1) } }))

/-! ### Media, addresses and frames -/

/-- R1 to R6, R10 to R13 and Tables 1-1 and 1-2: the regions of a slot, their order and lengths, and where its header, data words and
check word lie in its 1,092 bytes; how a payload maps onto the data words; header classes, the header a FORMAT writes, the check word,
which differs when the header word or any one data word differs; and what data writes and formats leave, whole and cut short, by the
byte of the slot at which the gate fell.
The model's choices: of a write cut short, a data word written in part counts as old, and a gap rewritten in part keeps the pattern it
held (assumption 9); a format slot cut short in its trailing gap still reads with a failing check, as the model reads R13 (assumption
32). -/
def Obligations.MediaFormat : Prop :=
  (∀ w0 w1 w2 : Word,
    (w2 ≠ ~~~ (w0 ^^^ w1) → classifyHeader (some (w0, w1, w2)) = .invalid) ∧
    (w2 = ~~~ (w0 ^^^ w1) → w1.getLsbD 31 = false → classifyHeader (some (w0, w1, w2)) = .unformatted) ∧
    (w2 = ~~~ (w0 ^^^ w1) → w1.getLsbD 31 = true → classifyHeader (some (w0, w1, w2)) =
      .formatted ⟨w0.toNat / 65536, w0.toNat % 65536, w1.toNat % 65536⟩)) ∧
  classifyHeader none = .invalid ∧
  (∀ a : Addr, a.cylinder < 65536 → a.surface < 65536 → a.sector < 65536 →
    classifyHeader (some (formatHeader a)) = .formatted a) ∧
  (∀ (before after : List Word) (x y w0 w1 : Word),
    (checkWord (before ++ x :: after) w0 = checkWord (before ++ y :: after) w0 ↔ x = y) ∧
    (checkWord before w0 = checkWord before w1 ↔ w0 = w1) ∧ checkWord [] w0 = w0 ∧
    checkWord (x :: after) w0 = x ^^^ checkWord after w0) ∧
  (sectorLayout.map fun x => (x, x.length)) =
    [(.sync, 12), (.headerWord0, 4), (.headerWord1, 4), (.headerWord2, 4), (.gapFiller, 12), (.dataSync, 4), (.dataField, 1024),
      (.checkWord, 4), (.trailingGap, 24)] ∧
  (∀ (place : Nat) (v : Slot), v.data.length = 256 →
    (slotImage place v).length = 1092 ∧
    (∀ w0 w1 w2, v.header = some (w0, w1, w2) → ((slotImage place v).drop 12).take 12 = le32 w0 ++ le32 w1 ++ le32 w2) ∧
    ((slotImage place v).drop 40).take 1024 = bytesOfWords v.data ∧
    (∀ c, v.check = some c → ((slotImage place v).drop 1064).take 4 = le32 c)) ∧
  (∀ payload : List Byte, payload.length = 1024 →
    (wordsOfBytes payload).length = 256 ∧ bytesOfWords (wordsOfBytes payload) = payload ∧
    ∀ k w, (wordsOfBytes payload)[k]? = some w → ∃ b0 b1 b2 b3 : Byte,
      payload[4 * k]? = some b0 ∧ payload[4 * k + 1]? = some b1 ∧ payload[4 * k + 2]? = some b2 ∧ payload[4 * k + 3]? = some b3 ∧
      w.toNat = b0.toNat + 256 * b1.toNat + 65536 * b2.toNat + 16777216 * b3.toNat) ∧
  (∀ words : List Word, wordsOfBytes (bytesOfWords words) = words) ∧
  ∀ (old : Slot) (data : List Word) (w0 : Word) (a : Addr) (fill : Option Word) (position : Nat),
    (position ≤ 36 → tornSlot old data w0 position = old) ∧
    (36 < position → position < 1068 → tornSlot old data w0 position =
      { old with
        gap := old.gap || decide (40 ≤ position)
        data := data.take ((position - 40) / 4) ++ old.data.drop ((position - 40) / 4)
        check := none }) ∧
    (1068 ≤ position → tornSlot old data w0 position =
      { old with
        gap := true, data := data, check := some (checkWord data w0), trailing := old.trailing || decide (1092 ≤ position) }) ∧
    (position < 24 →
      tornFormatSlot old a fill position = { old with sync := old.sync || decide (12 ≤ position), header := none }) ∧
    (24 ≤ position → tornFormatSlot old a fill position =
      ⟨true, some (formatHeader a), old.gap || decide (40 ≤ position),
        (List.replicate 256 (fill.getD 0)).take ((position - 40) / 4) ++ old.data.drop ((position - 40) / 4), none, old.trailing⟩)

/-- R8, R9, R54: the successor of an address by its three cases; its linear number is one greater; every address of a run lies that many
numbers after its start; the rotational distance counts the slots that begin to pass before the target, 0 for the next slot and S−1 for
the one now passing. -/
def Obligations.Addresses : Prop :=
  ∀ (g : Geometry) (a : Addr), g.contains a = true →
    (a.sector + 1 < g.sectors → g.successor a = ⟨a.cylinder, a.surface, a.sector + 1⟩) ∧
    (a.sector + 1 = g.sectors → a.surface + 1 < g.surfaces → g.successor a = ⟨a.cylinder, a.surface + 1, 0⟩) ∧
    (a.sector + 1 = g.sectors → a.surface + 1 = g.surfaces → g.successor a = ⟨a.cylinder + 1, 0, 0⟩) ∧
    g.linear (g.successor a) = g.linear a + 1 ∧
    (g.linear (g.successor a) < g.total ↔ g.contains (g.successor a) = true) ∧
    (∀ k, g.linear a + k ≤ g.total → g.linear (g.addressAt a k) = g.linear a + k) ∧
    (∀ k, g.linear a + k < g.total → g.contains (g.addressAt a k) = true) ∧
    ∀ c t, c < g.sectors → t < g.sectors →
      rotationalDistance g.sectors c t = (t + (g.sectors - 1 - c)) % g.sectors ∧
      (rotationalDistance g.sectors c t = 0 ↔ t = (c + 1) % g.sectors) ∧
      (rotationalDistance g.sectors c t = g.sectors - 1 ↔ t = c)

/-- Tables 9-2 and 9-3, R165, R169: frames and message commands agree, with every field at every value: a well-formed message is the
command of its own frame, and every frame is a well-formed message's. -/
def Obligations.FramesAndCommandsAgree : Prop :=
  (∀ i : Instr, i.wellFormed = true → i.isMessage = true → ∃ f : Frame, encodeFrame i = some f ∧ decodeFrame f = i) ∧
  ∀ f : Frame, f.body.length ≤ 1040 →
    encodeFrame (decodeFrame f) = some f ∧ (decodeFrame f).wellFormed = true ∧ (decodeFrame f).isMessage = true

/-! ### Invariants -/

/-- Every invariant below holds right after hardware reset. -/
def Obligations.InvariantsAtReset : Prop :=
  State.reset.ParamsInRange ∧ State.reset.BudgetKept ∧ State.reset.WaitListExact ∧ State.reset.SpindlesConsistent ∧
  State.reset.FlagsConsistent ∧ State.reset.PresenceExact ∧ State.reset.ArmExact ∧ State.reset.TimersSound ∧
  State.reset.TrackersSound ∧ State.reset.ActivityOnce ∧ State.reset.BuffersAccounted ∧ State.reset.TagsDistinct ∧
  State.reset.EngagementExact ∧ State.reset.EngagedReady ∧ State.reset.RunsSound ∧ State.reset.CountsSound ∧ State.reset.HoldsExact ∧
  State.reset.RestartSound ∧ State.reset.InboundBounded ∧ State.reset.RepliesBounded ∧ State.reset.DonesBounded ∧
  State.reset.EventsSound ∧ State.reset.NoticeSound ∧ State.reset.MediaSound

/-- R24: "The spinning count never exceeds SPIN_LIMIT and the rising count never exceeds SURGE_LIMIT": every step keeps both. -/
def Obligations.SpinBudgetKept : Prop :=
  ∀ s t : State, s.BudgetKept → step s = .next t → t.BudgetKept

/-- R151: "Every one of the 24 buffers is in exactly one of these places": with a tag in use once, every step keeps the free count at 24
less the buffers of the other places, in reset as out of it. The place of an RDATA that a reset cut off is the model's reading
(assumption 40). -/
def Obligations.BuffersStayAccounted : Prop :=
  ∀ s t : State, s.BuffersAccounted → step s = .next t → t.BuffersAccounted

/-- R18, R25, R30, R31, R39, R40 and Table 2-2: every step keeps the wait list exact, cause and geometry with the state, the pinned and
respin flags with the state, and ABSENT with PRES. -/
def Obligations.SpindlesStayConsistent : Prop :=
  ∀ s t : State, step s = .next t →
    (s.WaitListExact → t.WaitListExact) ∧ (s.SpindlesConsistent → t.SpindlesConsistent) ∧
    (s.FlagsConsistent → t.FlagsConsistent) ∧ (s.PresenceExact → t.PresenceExact)

/-- R28, R31 to R33, R44, R51, R57: every step keeps the arm UNKNOWN exactly out of READY, the timers with the states they run in, the
tracker cleared outside the spinning states, and a spindle at most once in the activity order. -/
def Obligations.ArmsTimersTrackersStaySound : Prop :=
  ∀ s t : State, step s = .next t →
    (s.ArmExact → t.ArmExact) ∧ (s.TimersSound → t.TimersSound) ∧ (s.TrackersSound → t.TrackersSound) ∧
    (s.ActivityOnce → t.ActivityOnce)

/-- R72 to R74, R82, R117, R122, R124, R138, R153: every step keeps a tag in use by at most one request, the engaged request the one
ACTIVE request on the selected spindle, that spindle READY, and the counts of the requests within their sizes; and every run sound:
fewer sectors done than the count, the next address the run's at index sectors done, the transfer index sectors done plus the pending
entries, and the staged indices consecutive and ending just below the frontier. -/
def Obligations.EngagementStaysExact : Prop :=
  ∀ s t : State, step s = .next t →
    (s.TagsDistinct → t.TagsDistinct) ∧ (s.EngagementExact → t.EngagementExact) ∧ (s.EngagedReady → t.EngagedReady) ∧
    (s.CountsSound → t.CountsSound) ∧ (s.RunsSound → t.RunsSound)

/-- R83 to R88: every step keeps the hold reasons of every request that is not ACTIVE what R83 computes from the spindle, the older
requests and the staged list, and the request HELD exactly with a reason. -/
def Obligations.HoldsStayExact : Prop :=
  ∀ s t : State, s.HoldsExact → step s = .next t → t.HoldsExact

/-- R104, R149, R168 to R170, R178, R181, R182, R185, R188, R191: every step keeps the parameters in range, the queues within their
bounds, the RESTART in progress with its holds, one event record per spindle, and the notice counts; and the media list's one form,
places strictly rising and no slot listed that is as an unlisted one reads, which is the model's (assumption 7). -/
def Obligations.QueuesAndRecordsStaySound : Prop :=
  ∀ s t : State, step s = .next t →
    (s.ParamsInRange → t.ParamsInRange) ∧ (s.RestartSound → t.RestartSound) ∧ (s.InboundBounded → t.InboundBounded) ∧
    (s.RepliesBounded → t.RepliesBounded) ∧ (s.DonesBounded → t.DonesBounded) ∧ (s.EventsSound → t.EventsSound) ∧
    (s.NoticeSound → t.NoticeSound) ∧ (s.MediaSound → t.MediaSound)
end

