-- ==== Sys2Proof/Laws/State.lean ====
section
/-! SUPPORT. Frames of the direct updates: for each, the fields of State that it leaves alone. -/

namespace Sys2Proof.Machine

@[simp] theorem State.setTable_frame (s : State) (x : List Request) :
    (s.setTable x).pending = s.pending ∧ (s.setTable x).now = s.now ∧ (s.setTable x).freeUses = s.freeUses ∧
    (s.setTable x).media = s.media ∧ (s.setTable x).inReset = s.inReset ∧ (s.setTable x).cutOff = s.cutOff ∧
    (s.setTable x).spindles = s.spindles ∧ (s.setTable x).waitList = s.waitList ∧ (s.setTable x).activity = s.activity ∧
    (s.setTable x).choiceHold = s.choiceHold ∧ (s.setTable x).chan = s.chan ∧ (s.setTable x).stopRequest = s.stopRequest ∧
    (s.setTable x).free = s.free ∧ (s.setTable x).parser = s.parser ∧ (s.setTable x).inbound = s.inbound ∧
    (s.setTable x).replies = s.replies ∧ (s.setTable x).stream = s.stream ∧ (s.setTable x).line = s.line ∧
    (s.setTable x).partSeq = s.partSeq ∧ (s.setTable x).params = s.params ∧ (s.setTable x).restart = s.restart ∧
    (s.setTable x).events = s.events ∧ (s.setTable x).notice = s.notice := by
  repeat' constructor

@[simp] theorem State.setStream_frame (s : State) (x : List StreamEntry) :
    (s.setStream x).pending = s.pending ∧ (s.setStream x).now = s.now ∧ (s.setStream x).freeUses = s.freeUses ∧
    (s.setStream x).media = s.media ∧ (s.setStream x).inReset = s.inReset ∧ (s.setStream x).cutOff = s.cutOff ∧
    (s.setStream x).spindles = s.spindles ∧ (s.setStream x).waitList = s.waitList ∧ (s.setStream x).activity = s.activity ∧
    (s.setStream x).table = s.table ∧ (s.setStream x).choiceHold = s.choiceHold ∧ (s.setStream x).chan = s.chan ∧
    (s.setStream x).stopRequest = s.stopRequest ∧ (s.setStream x).free = s.free ∧ (s.setStream x).parser = s.parser ∧
    (s.setStream x).inbound = s.inbound ∧ (s.setStream x).replies = s.replies ∧ (s.setStream x).line = s.line ∧
    (s.setStream x).partSeq = s.partSeq ∧ (s.setStream x).params = s.params ∧ (s.setStream x).restart = s.restart ∧
    (s.setStream x).events = s.events ∧ (s.setStream x).notice = s.notice := by
  repeat' constructor

@[simp] theorem State.setWaitList_frame (s : State) (x : List Port) :
    (s.setWaitList x).pending = s.pending ∧ (s.setWaitList x).now = s.now ∧ (s.setWaitList x).freeUses = s.freeUses ∧
    (s.setWaitList x).media = s.media ∧ (s.setWaitList x).inReset = s.inReset ∧ (s.setWaitList x).cutOff = s.cutOff ∧
    (s.setWaitList x).spindles = s.spindles ∧ (s.setWaitList x).activity = s.activity ∧ (s.setWaitList x).table = s.table ∧
    (s.setWaitList x).choiceHold = s.choiceHold ∧ (s.setWaitList x).chan = s.chan ∧
    (s.setWaitList x).stopRequest = s.stopRequest ∧ (s.setWaitList x).free = s.free ∧ (s.setWaitList x).parser = s.parser ∧
    (s.setWaitList x).inbound = s.inbound ∧ (s.setWaitList x).replies = s.replies ∧ (s.setWaitList x).stream = s.stream ∧
    (s.setWaitList x).line = s.line ∧ (s.setWaitList x).partSeq = s.partSeq ∧ (s.setWaitList x).params = s.params ∧
    (s.setWaitList x).restart = s.restart ∧ (s.setWaitList x).events = s.events ∧ (s.setWaitList x).notice = s.notice := by
  repeat' constructor

@[simp] theorem State.setActivity_frame (s : State) (x : List Port) :
    (s.setActivity x).pending = s.pending ∧ (s.setActivity x).now = s.now ∧ (s.setActivity x).freeUses = s.freeUses ∧
    (s.setActivity x).media = s.media ∧ (s.setActivity x).inReset = s.inReset ∧ (s.setActivity x).cutOff = s.cutOff ∧
    (s.setActivity x).spindles = s.spindles ∧ (s.setActivity x).waitList = s.waitList ∧ (s.setActivity x).table = s.table ∧
    (s.setActivity x).choiceHold = s.choiceHold ∧ (s.setActivity x).chan = s.chan ∧
    (s.setActivity x).stopRequest = s.stopRequest ∧ (s.setActivity x).free = s.free ∧ (s.setActivity x).parser = s.parser ∧
    (s.setActivity x).inbound = s.inbound ∧ (s.setActivity x).replies = s.replies ∧ (s.setActivity x).stream = s.stream ∧
    (s.setActivity x).line = s.line ∧ (s.setActivity x).partSeq = s.partSeq ∧ (s.setActivity x).params = s.params ∧
    (s.setActivity x).restart = s.restart ∧ (s.setActivity x).events = s.events ∧ (s.setActivity x).notice = s.notice := by
  repeat' constructor

@[simp] theorem State.setChan_frame (s : State) (x : Option Engagement) :
    (s.setChan x).pending = s.pending ∧ (s.setChan x).now = s.now ∧ (s.setChan x).freeUses = s.freeUses ∧
    (s.setChan x).media = s.media ∧ (s.setChan x).inReset = s.inReset ∧ (s.setChan x).cutOff = s.cutOff ∧
    (s.setChan x).spindles = s.spindles ∧ (s.setChan x).waitList = s.waitList ∧ (s.setChan x).activity = s.activity ∧
    (s.setChan x).table = s.table ∧ (s.setChan x).choiceHold = s.choiceHold ∧ (s.setChan x).stopRequest = s.stopRequest ∧
    (s.setChan x).free = s.free ∧ (s.setChan x).parser = s.parser ∧ (s.setChan x).inbound = s.inbound ∧
    (s.setChan x).replies = s.replies ∧ (s.setChan x).stream = s.stream ∧ (s.setChan x).line = s.line ∧
    (s.setChan x).partSeq = s.partSeq ∧ (s.setChan x).params = s.params ∧ (s.setChan x).restart = s.restart ∧
    (s.setChan x).events = s.events ∧ (s.setChan x).notice = s.notice := by
  repeat' constructor

@[simp] theorem State.setFree_frame (s : State) (x : Nat) :
    (s.setFree x).pending = s.pending ∧ (s.setFree x).now = s.now ∧ (s.setFree x).freeUses = s.freeUses ∧
    (s.setFree x).media = s.media ∧ (s.setFree x).inReset = s.inReset ∧ (s.setFree x).cutOff = s.cutOff ∧
    (s.setFree x).spindles = s.spindles ∧ (s.setFree x).waitList = s.waitList ∧ (s.setFree x).activity = s.activity ∧
    (s.setFree x).table = s.table ∧ (s.setFree x).choiceHold = s.choiceHold ∧ (s.setFree x).chan = s.chan ∧
    (s.setFree x).stopRequest = s.stopRequest ∧ (s.setFree x).parser = s.parser ∧ (s.setFree x).inbound = s.inbound ∧
    (s.setFree x).replies = s.replies ∧ (s.setFree x).stream = s.stream ∧ (s.setFree x).line = s.line ∧
    (s.setFree x).partSeq = s.partSeq ∧ (s.setFree x).params = s.params ∧ (s.setFree x).restart = s.restart ∧
    (s.setFree x).events = s.events ∧ (s.setFree x).notice = s.notice := by
  repeat' constructor

@[simp] theorem State.setLine_frame (s : State) (x : Option OutFrame) :
    (s.setLine x).pending = s.pending ∧ (s.setLine x).now = s.now ∧ (s.setLine x).freeUses = s.freeUses ∧
    (s.setLine x).media = s.media ∧ (s.setLine x).inReset = s.inReset ∧ (s.setLine x).cutOff = s.cutOff ∧
    (s.setLine x).spindles = s.spindles ∧ (s.setLine x).waitList = s.waitList ∧ (s.setLine x).activity = s.activity ∧
    (s.setLine x).table = s.table ∧ (s.setLine x).choiceHold = s.choiceHold ∧ (s.setLine x).chan = s.chan ∧
    (s.setLine x).stopRequest = s.stopRequest ∧ (s.setLine x).free = s.free ∧ (s.setLine x).parser = s.parser ∧
    (s.setLine x).inbound = s.inbound ∧ (s.setLine x).replies = s.replies ∧ (s.setLine x).stream = s.stream ∧
    (s.setLine x).partSeq = s.partSeq ∧ (s.setLine x).params = s.params ∧ (s.setLine x).restart = s.restart ∧
    (s.setLine x).events = s.events ∧ (s.setLine x).notice = s.notice := by
  repeat' constructor

@[simp] theorem State.setReplies_frame (s : State) (x : List Reply) :
    (s.setReplies x).pending = s.pending ∧ (s.setReplies x).now = s.now ∧ (s.setReplies x).freeUses = s.freeUses ∧
    (s.setReplies x).media = s.media ∧ (s.setReplies x).inReset = s.inReset ∧ (s.setReplies x).cutOff = s.cutOff ∧
    (s.setReplies x).spindles = s.spindles ∧ (s.setReplies x).waitList = s.waitList ∧ (s.setReplies x).activity = s.activity ∧
    (s.setReplies x).table = s.table ∧ (s.setReplies x).choiceHold = s.choiceHold ∧ (s.setReplies x).chan = s.chan ∧
    (s.setReplies x).stopRequest = s.stopRequest ∧ (s.setReplies x).free = s.free ∧ (s.setReplies x).parser = s.parser ∧
    (s.setReplies x).inbound = s.inbound ∧ (s.setReplies x).stream = s.stream ∧ (s.setReplies x).line = s.line ∧
    (s.setReplies x).partSeq = s.partSeq ∧ (s.setReplies x).params = s.params ∧ (s.setReplies x).restart = s.restart ∧
    (s.setReplies x).events = s.events ∧ (s.setReplies x).notice = s.notice := by
  repeat' constructor

@[simp] theorem State.setEvents_frame (s : State) (x : List EventRecord) :
    (s.setEvents x).pending = s.pending ∧ (s.setEvents x).now = s.now ∧ (s.setEvents x).freeUses = s.freeUses ∧
    (s.setEvents x).media = s.media ∧ (s.setEvents x).inReset = s.inReset ∧ (s.setEvents x).cutOff = s.cutOff ∧
    (s.setEvents x).spindles = s.spindles ∧ (s.setEvents x).waitList = s.waitList ∧ (s.setEvents x).activity = s.activity ∧
    (s.setEvents x).table = s.table ∧ (s.setEvents x).choiceHold = s.choiceHold ∧ (s.setEvents x).chan = s.chan ∧
    (s.setEvents x).stopRequest = s.stopRequest ∧ (s.setEvents x).free = s.free ∧ (s.setEvents x).parser = s.parser ∧
    (s.setEvents x).inbound = s.inbound ∧ (s.setEvents x).replies = s.replies ∧ (s.setEvents x).stream = s.stream ∧
    (s.setEvents x).line = s.line ∧ (s.setEvents x).partSeq = s.partSeq ∧ (s.setEvents x).params = s.params ∧
    (s.setEvents x).restart = s.restart ∧ (s.setEvents x).notice = s.notice := by
  repeat' constructor

@[simp] theorem State.setNotice_frame (s : State) (x : Notice) :
    (s.setNotice x).pending = s.pending ∧ (s.setNotice x).now = s.now ∧ (s.setNotice x).freeUses = s.freeUses ∧
    (s.setNotice x).media = s.media ∧ (s.setNotice x).inReset = s.inReset ∧ (s.setNotice x).cutOff = s.cutOff ∧
    (s.setNotice x).spindles = s.spindles ∧ (s.setNotice x).waitList = s.waitList ∧ (s.setNotice x).activity = s.activity ∧
    (s.setNotice x).table = s.table ∧ (s.setNotice x).choiceHold = s.choiceHold ∧ (s.setNotice x).chan = s.chan ∧
    (s.setNotice x).stopRequest = s.stopRequest ∧ (s.setNotice x).free = s.free ∧ (s.setNotice x).parser = s.parser ∧
    (s.setNotice x).inbound = s.inbound ∧ (s.setNotice x).replies = s.replies ∧ (s.setNotice x).stream = s.stream ∧
    (s.setNotice x).line = s.line ∧ (s.setNotice x).partSeq = s.partSeq ∧ (s.setNotice x).params = s.params ∧
    (s.setNotice x).restart = s.restart ∧ (s.setNotice x).events = s.events := by
  repeat' constructor

@[simp] theorem State.endRestart_frame (s : State) :
    (s.endRestart).pending = s.pending ∧ (s.endRestart).now = s.now ∧ (s.endRestart).freeUses = s.freeUses ∧
    (s.endRestart).media = s.media ∧ (s.endRestart).inReset = s.inReset ∧ (s.endRestart).cutOff = s.cutOff ∧
    (s.endRestart).spindles = s.spindles ∧ (s.endRestart).waitList = s.waitList ∧ (s.endRestart).activity = s.activity ∧
    (s.endRestart).table = s.table ∧ (s.endRestart).chan = s.chan ∧ (s.endRestart).free = s.free ∧
    (s.endRestart).parser = s.parser ∧ (s.endRestart).inbound = s.inbound ∧ (s.endRestart).replies = s.replies ∧
    (s.endRestart).stream = s.stream ∧ (s.endRestart).line = s.line ∧ (s.endRestart).partSeq = s.partSeq ∧
    (s.endRestart).params = s.params ∧ (s.endRestart).events = s.events ∧ (s.endRestart).notice = s.notice := by
  repeat' constructor

@[simp] theorem State.beginRestart_frame (s : State) (x : Byte) :
    (s.beginRestart x).pending = s.pending ∧ (s.beginRestart x).now = s.now ∧ (s.beginRestart x).freeUses = s.freeUses ∧
    (s.beginRestart x).media = s.media ∧ (s.beginRestart x).inReset = s.inReset ∧ (s.beginRestart x).cutOff = s.cutOff ∧
    (s.beginRestart x).spindles = s.spindles ∧ (s.beginRestart x).waitList = s.waitList ∧
    (s.beginRestart x).activity = s.activity ∧ (s.beginRestart x).table = s.table ∧ (s.beginRestart x).chan = s.chan ∧
    (s.beginRestart x).free = s.free ∧ (s.beginRestart x).parser = s.parser ∧ (s.beginRestart x).inbound = s.inbound ∧
    (s.beginRestart x).replies = s.replies ∧ (s.beginRestart x).stream = s.stream ∧ (s.beginRestart x).line = s.line ∧
    (s.beginRestart x).partSeq = s.partSeq ∧ (s.beginRestart x).params = s.params ∧ (s.beginRestart x).events = s.events ∧
    (s.beginRestart x).notice = s.notice := by
  repeat' constructor

@[simp] theorem State.setSpindle_frame (s : State) (p : Port) (r : Spindle) :
    (s.setSpindle p r).pending = s.pending ∧ (s.setSpindle p r).now = s.now ∧ (s.setSpindle p r).freeUses = s.freeUses ∧
    (s.setSpindle p r).media = s.media ∧ (s.setSpindle p r).inReset = s.inReset ∧ (s.setSpindle p r).cutOff = s.cutOff ∧
    (s.setSpindle p r).waitList = s.waitList ∧ (s.setSpindle p r).activity = s.activity ∧ (s.setSpindle p r).table = s.table ∧
    (s.setSpindle p r).choiceHold = s.choiceHold ∧ (s.setSpindle p r).chan = s.chan ∧
    (s.setSpindle p r).stopRequest = s.stopRequest ∧ (s.setSpindle p r).free = s.free ∧ (s.setSpindle p r).parser = s.parser ∧
    (s.setSpindle p r).inbound = s.inbound ∧ (s.setSpindle p r).replies = s.replies ∧ (s.setSpindle p r).stream = s.stream ∧
    (s.setSpindle p r).line = s.line ∧ (s.setSpindle p r).partSeq = s.partSeq ∧ (s.setSpindle p r).params = s.params ∧
    (s.setSpindle p r).restart = s.restart ∧ (s.setSpindle p r).events = s.events ∧ (s.setSpindle p r).notice = s.notice := by
  repeat' constructor

@[simp] theorem State.modSpindle_frame (s : State) (p : Port) (f : Spindle → Spindle) :
    (s.modSpindle p f).pending = s.pending ∧ (s.modSpindle p f).now = s.now ∧ (s.modSpindle p f).freeUses = s.freeUses ∧
    (s.modSpindle p f).media = s.media ∧ (s.modSpindle p f).inReset = s.inReset ∧ (s.modSpindle p f).cutOff = s.cutOff ∧
    (s.modSpindle p f).waitList = s.waitList ∧ (s.modSpindle p f).activity = s.activity ∧ (s.modSpindle p f).table = s.table ∧
    (s.modSpindle p f).choiceHold = s.choiceHold ∧ (s.modSpindle p f).chan = s.chan ∧
    (s.modSpindle p f).stopRequest = s.stopRequest ∧ (s.modSpindle p f).free = s.free ∧ (s.modSpindle p f).parser = s.parser ∧
    (s.modSpindle p f).inbound = s.inbound ∧ (s.modSpindle p f).replies = s.replies ∧ (s.modSpindle p f).stream = s.stream ∧
    (s.modSpindle p f).line = s.line ∧ (s.modSpindle p f).partSeq = s.partSeq ∧ (s.modSpindle p f).params = s.params ∧
    (s.modSpindle p f).restart = s.restart ∧ (s.modSpindle p f).events = s.events ∧ (s.modSpindle p f).notice = s.notice := by
  repeat' constructor

@[simp] theorem State.modRequest_frame (s : State) (t : Tag) (f : Request → Request) :
    (s.modRequest t f).pending = s.pending ∧ (s.modRequest t f).now = s.now ∧ (s.modRequest t f).freeUses = s.freeUses ∧
    (s.modRequest t f).media = s.media ∧ (s.modRequest t f).inReset = s.inReset ∧ (s.modRequest t f).cutOff = s.cutOff ∧
    (s.modRequest t f).spindles = s.spindles ∧ (s.modRequest t f).waitList = s.waitList ∧
    (s.modRequest t f).activity = s.activity ∧ (s.modRequest t f).choiceHold = s.choiceHold ∧ (s.modRequest t f).chan = s.chan ∧
    (s.modRequest t f).stopRequest = s.stopRequest ∧ (s.modRequest t f).free = s.free ∧ (s.modRequest t f).parser = s.parser ∧
    (s.modRequest t f).inbound = s.inbound ∧ (s.modRequest t f).replies = s.replies ∧ (s.modRequest t f).stream = s.stream ∧
    (s.modRequest t f).line = s.line ∧ (s.modRequest t f).partSeq = s.partSeq ∧ (s.modRequest t f).params = s.params ∧
    (s.modRequest t f).restart = s.restart ∧ (s.modRequest t f).events = s.events ∧ (s.modRequest t f).notice = s.notice := by
  repeat' constructor

@[simp] theorem State.evalSpindleHold_frame (s : State) (p : Port) :
    (s.evalSpindleHold p).pending = s.pending ∧ (s.evalSpindleHold p).now = s.now ∧
    (s.evalSpindleHold p).freeUses = s.freeUses ∧ (s.evalSpindleHold p).media = s.media ∧
    (s.evalSpindleHold p).inReset = s.inReset ∧ (s.evalSpindleHold p).cutOff = s.cutOff ∧
    (s.evalSpindleHold p).spindles = s.spindles ∧ (s.evalSpindleHold p).waitList = s.waitList ∧
    (s.evalSpindleHold p).activity = s.activity ∧ (s.evalSpindleHold p).choiceHold = s.choiceHold ∧
    (s.evalSpindleHold p).chan = s.chan ∧ (s.evalSpindleHold p).stopRequest = s.stopRequest ∧
    (s.evalSpindleHold p).free = s.free ∧ (s.evalSpindleHold p).parser = s.parser ∧ (s.evalSpindleHold p).inbound = s.inbound ∧
    (s.evalSpindleHold p).replies = s.replies ∧ (s.evalSpindleHold p).stream = s.stream ∧ (s.evalSpindleHold p).line = s.line ∧
    (s.evalSpindleHold p).partSeq = s.partSeq ∧ (s.evalSpindleHold p).params = s.params ∧
    (s.evalSpindleHold p).restart = s.restart ∧ (s.evalSpindleHold p).events = s.events ∧
    (s.evalSpindleHold p).notice = s.notice := by
  repeat' constructor

@[simp] theorem State.evalBarriers_frame (s : State) (p : Port) :
    (s.evalBarriers p).pending = s.pending ∧ (s.evalBarriers p).now = s.now ∧ (s.evalBarriers p).freeUses = s.freeUses ∧
    (s.evalBarriers p).media = s.media ∧ (s.evalBarriers p).inReset = s.inReset ∧ (s.evalBarriers p).cutOff = s.cutOff ∧
    (s.evalBarriers p).spindles = s.spindles ∧ (s.evalBarriers p).waitList = s.waitList ∧
    (s.evalBarriers p).activity = s.activity ∧ (s.evalBarriers p).choiceHold = s.choiceHold ∧ (s.evalBarriers p).chan = s.chan ∧
    (s.evalBarriers p).stopRequest = s.stopRequest ∧ (s.evalBarriers p).free = s.free ∧ (s.evalBarriers p).parser = s.parser ∧
    (s.evalBarriers p).inbound = s.inbound ∧ (s.evalBarriers p).replies = s.replies ∧ (s.evalBarriers p).stream = s.stream ∧
    (s.evalBarriers p).line = s.line ∧ (s.evalBarriers p).partSeq = s.partSeq ∧ (s.evalBarriers p).params = s.params ∧
    (s.evalBarriers p).restart = s.restart ∧ (s.evalBarriers p).events = s.events ∧ (s.evalBarriers p).notice = s.notice := by
  repeat' constructor

@[simp] theorem State.liftNoBuffer_frame (s : State) :
    (s.liftNoBuffer).pending = s.pending ∧ (s.liftNoBuffer).now = s.now ∧ (s.liftNoBuffer).freeUses = s.freeUses ∧
    (s.liftNoBuffer).media = s.media ∧ (s.liftNoBuffer).inReset = s.inReset ∧ (s.liftNoBuffer).cutOff = s.cutOff ∧
    (s.liftNoBuffer).spindles = s.spindles ∧ (s.liftNoBuffer).waitList = s.waitList ∧ (s.liftNoBuffer).activity = s.activity ∧
    (s.liftNoBuffer).choiceHold = s.choiceHold ∧ (s.liftNoBuffer).chan = s.chan ∧ (s.liftNoBuffer).stopRequest = s.stopRequest ∧
    (s.liftNoBuffer).free = s.free ∧ (s.liftNoBuffer).parser = s.parser ∧ (s.liftNoBuffer).inbound = s.inbound ∧
    (s.liftNoBuffer).replies = s.replies ∧ (s.liftNoBuffer).stream = s.stream ∧ (s.liftNoBuffer).line = s.line ∧
    (s.liftNoBuffer).partSeq = s.partSeq ∧ (s.liftNoBuffer).params = s.params ∧ (s.liftNoBuffer).restart = s.restart ∧
    (s.liftNoBuffer).events = s.events ∧ (s.liftNoBuffer).notice = s.notice := by
  repeat' constructor

@[simp] theorem State.post_frame (s : State) (p : Port) (k : EventSet) :
    (s.post p k).pending = s.pending ∧ (s.post p k).now = s.now ∧ (s.post p k).freeUses = s.freeUses ∧
    (s.post p k).media = s.media ∧ (s.post p k).inReset = s.inReset ∧ (s.post p k).cutOff = s.cutOff ∧
    (s.post p k).spindles = s.spindles ∧ (s.post p k).waitList = s.waitList ∧ (s.post p k).activity = s.activity ∧
    (s.post p k).table = s.table ∧ (s.post p k).choiceHold = s.choiceHold ∧ (s.post p k).chan = s.chan ∧
    (s.post p k).stopRequest = s.stopRequest ∧ (s.post p k).free = s.free ∧ (s.post p k).parser = s.parser ∧
    (s.post p k).inbound = s.inbound ∧ (s.post p k).replies = s.replies ∧ (s.post p k).stream = s.stream ∧
    (s.post p k).line = s.line ∧ (s.post p k).partSeq = s.partSeq ∧ (s.post p k).params = s.params ∧
    (s.post p k).restart = s.restart ∧ (s.post p k).notice = s.notice := by
  repeat' constructor

@[simp] theorem State.touchActivity_frame (s : State) (p : Port) :
    (s.touchActivity p).pending = s.pending ∧ (s.touchActivity p).now = s.now ∧ (s.touchActivity p).freeUses = s.freeUses ∧
    (s.touchActivity p).media = s.media ∧ (s.touchActivity p).inReset = s.inReset ∧ (s.touchActivity p).cutOff = s.cutOff ∧
    (s.touchActivity p).spindles = s.spindles ∧ (s.touchActivity p).waitList = s.waitList ∧
    (s.touchActivity p).table = s.table ∧ (s.touchActivity p).choiceHold = s.choiceHold ∧ (s.touchActivity p).chan = s.chan ∧
    (s.touchActivity p).stopRequest = s.stopRequest ∧ (s.touchActivity p).free = s.free ∧
    (s.touchActivity p).parser = s.parser ∧ (s.touchActivity p).inbound = s.inbound ∧ (s.touchActivity p).replies = s.replies ∧
    (s.touchActivity p).stream = s.stream ∧ (s.touchActivity p).line = s.line ∧ (s.touchActivity p).partSeq = s.partSeq ∧
    (s.touchActivity p).params = s.params ∧ (s.touchActivity p).restart = s.restart ∧ (s.touchActivity p).events = s.events ∧
    (s.touchActivity p).notice = s.notice := by
  repeat' constructor

@[simp] theorem State.clockTo_frame (s : State) (n : Nat) :
    (s.clockTo n).pending = s.pending ∧ (s.clockTo n).freeUses = s.freeUses ∧ (s.clockTo n).media = s.media ∧
    (s.clockTo n).inReset = s.inReset ∧ (s.clockTo n).cutOff = s.cutOff ∧ (s.clockTo n).spindles = s.spindles ∧
    (s.clockTo n).waitList = s.waitList ∧ (s.clockTo n).activity = s.activity ∧ (s.clockTo n).table = s.table ∧
    (s.clockTo n).choiceHold = s.choiceHold ∧ (s.clockTo n).chan = s.chan ∧ (s.clockTo n).stopRequest = s.stopRequest ∧
    (s.clockTo n).free = s.free ∧ (s.clockTo n).parser = s.parser ∧ (s.clockTo n).inbound = s.inbound ∧
    (s.clockTo n).replies = s.replies ∧ (s.clockTo n).stream = s.stream ∧ (s.clockTo n).line = s.line ∧
    (s.clockTo n).partSeq = s.partSeq ∧ (s.clockTo n).params = s.params ∧ (s.clockTo n).restart = s.restart ∧
    (s.clockTo n).events = s.events ∧ (s.clockTo n).notice = s.notice := by
  repeat' constructor

@[simp] theorem State.modChan_frame (s : State) (f : Engagement → Engagement) :
    (s.modChan f).pending = s.pending ∧ (s.modChan f).now = s.now ∧ (s.modChan f).freeUses = s.freeUses ∧
    (s.modChan f).media = s.media ∧ (s.modChan f).inReset = s.inReset ∧ (s.modChan f).cutOff = s.cutOff ∧
    (s.modChan f).spindles = s.spindles ∧ (s.modChan f).waitList = s.waitList ∧ (s.modChan f).activity = s.activity ∧
    (s.modChan f).table = s.table ∧ (s.modChan f).choiceHold = s.choiceHold ∧ (s.modChan f).stopRequest = s.stopRequest ∧
    (s.modChan f).free = s.free ∧ (s.modChan f).parser = s.parser ∧ (s.modChan f).inbound = s.inbound ∧
    (s.modChan f).replies = s.replies ∧ (s.modChan f).stream = s.stream ∧ (s.modChan f).line = s.line ∧
    (s.modChan f).partSeq = s.partSeq ∧ (s.modChan f).params = s.params ∧ (s.modChan f).restart = s.restart ∧
    (s.modChan f).events = s.events ∧ (s.modChan f).notice = s.notice := by
  repeat' constructor

@[simp] theorem State.clearOwner_frame (s : State) (p : Port) (t : Tag) :
    (s.clearOwner p t).pending = s.pending ∧ (s.clearOwner p t).now = s.now ∧ (s.clearOwner p t).freeUses = s.freeUses ∧
    (s.clearOwner p t).media = s.media ∧ (s.clearOwner p t).inReset = s.inReset ∧ (s.clearOwner p t).cutOff = s.cutOff ∧
    (s.clearOwner p t).waitList = s.waitList ∧ (s.clearOwner p t).activity = s.activity ∧ (s.clearOwner p t).table = s.table ∧
    (s.clearOwner p t).choiceHold = s.choiceHold ∧ (s.clearOwner p t).chan = s.chan ∧
    (s.clearOwner p t).stopRequest = s.stopRequest ∧ (s.clearOwner p t).free = s.free ∧ (s.clearOwner p t).parser = s.parser ∧
    (s.clearOwner p t).inbound = s.inbound ∧ (s.clearOwner p t).replies = s.replies ∧ (s.clearOwner p t).stream = s.stream ∧
    (s.clearOwner p t).line = s.line ∧ (s.clearOwner p t).partSeq = s.partSeq ∧ (s.clearOwner p t).params = s.params ∧
    (s.clearOwner p t).restart = s.restart ∧ (s.clearOwner p t).events = s.events ∧ (s.clearOwner p t).notice = s.notice := by
  repeat' constructor

@[simp] theorem State.issueSeek_frame (s : State) (p : Port) (c : Nat) (t : Tag) :
    (s.issueSeek p c t).pending = s.pending ∧ (s.issueSeek p c t).now = s.now ∧ (s.issueSeek p c t).freeUses = s.freeUses ∧
    (s.issueSeek p c t).media = s.media ∧ (s.issueSeek p c t).inReset = s.inReset ∧ (s.issueSeek p c t).cutOff = s.cutOff ∧
    (s.issueSeek p c t).waitList = s.waitList ∧ (s.issueSeek p c t).activity = s.activity ∧
    (s.issueSeek p c t).table = s.table ∧ (s.issueSeek p c t).choiceHold = s.choiceHold ∧ (s.issueSeek p c t).chan = s.chan ∧
    (s.issueSeek p c t).stopRequest = s.stopRequest ∧ (s.issueSeek p c t).free = s.free ∧
    (s.issueSeek p c t).parser = s.parser ∧ (s.issueSeek p c t).inbound = s.inbound ∧ (s.issueSeek p c t).replies = s.replies ∧
    (s.issueSeek p c t).stream = s.stream ∧ (s.issueSeek p c t).line = s.line ∧ (s.issueSeek p c t).partSeq = s.partSeq ∧
    (s.issueSeek p c t).params = s.params ∧ (s.issueSeek p c t).restart = s.restart ∧ (s.issueSeek p c t).events = s.events ∧
    (s.issueSeek p c t).notice = s.notice := by
  repeat' constructor

@[simp] theorem State.engage_frame (s : State) (r : Request) :
    (s.engage r).pending = s.pending ∧ (s.engage r).now = s.now ∧ (s.engage r).freeUses = s.freeUses ∧
    (s.engage r).media = s.media ∧ (s.engage r).inReset = s.inReset ∧ (s.engage r).cutOff = s.cutOff ∧
    (s.engage r).spindles = s.spindles ∧ (s.engage r).waitList = s.waitList ∧ (s.engage r).activity = s.activity ∧
    (s.engage r).choiceHold = s.choiceHold ∧ (s.engage r).stopRequest = s.stopRequest ∧ (s.engage r).free = s.free ∧
    (s.engage r).parser = s.parser ∧ (s.engage r).inbound = s.inbound ∧ (s.engage r).replies = s.replies ∧
    (s.engage r).stream = s.stream ∧ (s.engage r).line = s.line ∧ (s.engage r).partSeq = s.partSeq ∧
    (s.engage r).params = s.params ∧ (s.engage r).restart = s.restart ∧ (s.engage r).events = s.events ∧
    (s.engage r).notice = s.notice := by
  repeat' constructor

@[simp] theorem State.pushReply_frame (s : State) (k q : Byte) (c : Code) (b : List Byte) :
    (s.pushReply k q c b).pending = s.pending ∧ (s.pushReply k q c b).now = s.now ∧
    (s.pushReply k q c b).freeUses = s.freeUses ∧ (s.pushReply k q c b).media = s.media ∧
    (s.pushReply k q c b).inReset = s.inReset ∧ (s.pushReply k q c b).cutOff = s.cutOff ∧
    (s.pushReply k q c b).spindles = s.spindles ∧ (s.pushReply k q c b).waitList = s.waitList ∧
    (s.pushReply k q c b).activity = s.activity ∧ (s.pushReply k q c b).table = s.table ∧
    (s.pushReply k q c b).choiceHold = s.choiceHold ∧ (s.pushReply k q c b).chan = s.chan ∧
    (s.pushReply k q c b).stopRequest = s.stopRequest ∧ (s.pushReply k q c b).free = s.free ∧
    (s.pushReply k q c b).parser = s.parser ∧ (s.pushReply k q c b).inbound = s.inbound ∧
    (s.pushReply k q c b).stream = s.stream ∧ (s.pushReply k q c b).line = s.line ∧ (s.pushReply k q c b).partSeq = s.partSeq ∧
    (s.pushReply k q c b).params = s.params ∧ (s.pushReply k q c b).restart = s.restart ∧
    (s.pushReply k q c b).events = s.events ∧ (s.pushReply k q c b).notice = s.notice := by
  repeat' constructor

@[simp] theorem State.popInbound_frame (s : State) :
    (s.popInbound).pending = s.pending ∧ (s.popInbound).now = s.now ∧ (s.popInbound).freeUses = s.freeUses ∧
    (s.popInbound).media = s.media ∧ (s.popInbound).inReset = s.inReset ∧ (s.popInbound).cutOff = s.cutOff ∧
    (s.popInbound).spindles = s.spindles ∧ (s.popInbound).waitList = s.waitList ∧ (s.popInbound).activity = s.activity ∧
    (s.popInbound).table = s.table ∧ (s.popInbound).choiceHold = s.choiceHold ∧ (s.popInbound).chan = s.chan ∧
    (s.popInbound).stopRequest = s.stopRequest ∧ (s.popInbound).free = s.free ∧ (s.popInbound).parser = s.parser ∧
    (s.popInbound).replies = s.replies ∧ (s.popInbound).stream = s.stream ∧ (s.popInbound).line = s.line ∧
    (s.popInbound).partSeq = s.partSeq ∧ (s.popInbound).params = s.params ∧ (s.popInbound).restart = s.restart ∧
    (s.popInbound).events = s.events ∧ (s.popInbound).notice = s.notice := by
  repeat' constructor

@[simp] theorem State.transmit_frame (s : State) (k : Byte) (b : List Byte) (h : Bool) :
    (s.transmit k b h).pending = s.pending ∧ (s.transmit k b h).now = s.now ∧ (s.transmit k b h).freeUses = s.freeUses ∧
    (s.transmit k b h).media = s.media ∧ (s.transmit k b h).inReset = s.inReset ∧ (s.transmit k b h).cutOff = s.cutOff ∧
    (s.transmit k b h).spindles = s.spindles ∧ (s.transmit k b h).waitList = s.waitList ∧
    (s.transmit k b h).activity = s.activity ∧ (s.transmit k b h).table = s.table ∧
    (s.transmit k b h).choiceHold = s.choiceHold ∧ (s.transmit k b h).chan = s.chan ∧
    (s.transmit k b h).stopRequest = s.stopRequest ∧ (s.transmit k b h).free = s.free ∧ (s.transmit k b h).parser = s.parser ∧
    (s.transmit k b h).inbound = s.inbound ∧ (s.transmit k b h).replies = s.replies ∧ (s.transmit k b h).stream = s.stream ∧
    (s.transmit k b h).params = s.params ∧ (s.transmit k b h).restart = s.restart ∧ (s.transmit k b h).events = s.events ∧
    (s.transmit k b h).notice = s.notice := by
  repeat' constructor

@[simp] theorem State.restartSpindle_frame (s : State) (p : Port) :
    (s.restartSpindle p).pending = s.pending ∧ (s.restartSpindle p).now = s.now ∧ (s.restartSpindle p).freeUses = s.freeUses ∧
    (s.restartSpindle p).media = s.media ∧ (s.restartSpindle p).inReset = s.inReset ∧ (s.restartSpindle p).cutOff = s.cutOff ∧
    (s.restartSpindle p).waitList = s.waitList ∧ (s.restartSpindle p).activity = s.activity ∧
    (s.restartSpindle p).table = s.table ∧ (s.restartSpindle p).choiceHold = s.choiceHold ∧ (s.restartSpindle p).chan = s.chan ∧
    (s.restartSpindle p).stopRequest = s.stopRequest ∧ (s.restartSpindle p).free = s.free ∧
    (s.restartSpindle p).parser = s.parser ∧ (s.restartSpindle p).inbound = s.inbound ∧
    (s.restartSpindle p).replies = s.replies ∧ (s.restartSpindle p).stream = s.stream ∧ (s.restartSpindle p).line = s.line ∧
    (s.restartSpindle p).partSeq = s.partSeq ∧ (s.restartSpindle p).params = s.params ∧
    (s.restartSpindle p).restart = s.restart ∧ (s.restartSpindle p).events = s.events ∧
    (s.restartSpindle p).notice = s.notice := by
  repeat' constructor

@[simp] theorem State.orphanSeek_frame (s : State) (p : Port) :
    (s.orphanSeek p).pending = s.pending ∧ (s.orphanSeek p).now = s.now ∧ (s.orphanSeek p).freeUses = s.freeUses ∧
    (s.orphanSeek p).media = s.media ∧ (s.orphanSeek p).inReset = s.inReset ∧ (s.orphanSeek p).cutOff = s.cutOff ∧
    (s.orphanSeek p).waitList = s.waitList ∧ (s.orphanSeek p).activity = s.activity ∧ (s.orphanSeek p).table = s.table ∧
    (s.orphanSeek p).choiceHold = s.choiceHold ∧ (s.orphanSeek p).chan = s.chan ∧ (s.orphanSeek p).stopRequest = s.stopRequest ∧
    (s.orphanSeek p).free = s.free ∧ (s.orphanSeek p).parser = s.parser ∧ (s.orphanSeek p).inbound = s.inbound ∧
    (s.orphanSeek p).replies = s.replies ∧ (s.orphanSeek p).stream = s.stream ∧ (s.orphanSeek p).line = s.line ∧
    (s.orphanSeek p).partSeq = s.partSeq ∧ (s.orphanSeek p).params = s.params ∧ (s.orphanSeek p).restart = s.restart ∧
    (s.orphanSeek p).events = s.events ∧ (s.orphanSeek p).notice = s.notice := by
  repeat' constructor

@[simp] theorem State.countSector_frame (s : State) (t : Tag) :
    (s.countSector t).pending = s.pending ∧ (s.countSector t).now = s.now ∧ (s.countSector t).freeUses = s.freeUses ∧
    (s.countSector t).media = s.media ∧ (s.countSector t).inReset = s.inReset ∧ (s.countSector t).cutOff = s.cutOff ∧
    (s.countSector t).spindles = s.spindles ∧ (s.countSector t).waitList = s.waitList ∧
    (s.countSector t).activity = s.activity ∧ (s.countSector t).choiceHold = s.choiceHold ∧ (s.countSector t).chan = s.chan ∧
    (s.countSector t).stopRequest = s.stopRequest ∧ (s.countSector t).free = s.free ∧ (s.countSector t).parser = s.parser ∧
    (s.countSector t).inbound = s.inbound ∧ (s.countSector t).replies = s.replies ∧ (s.countSector t).stream = s.stream ∧
    (s.countSector t).line = s.line ∧ (s.countSector t).partSeq = s.partSeq ∧ (s.countSector t).params = s.params ∧
    (s.countSector t).restart = s.restart ∧ (s.countSector t).events = s.events ∧ (s.countSector t).notice = s.notice := by
  repeat' constructor

@[simp] theorem State.writeFormatSlot_frame (s : State) (e : Engagement) :
    (s.writeFormatSlot e).pending = s.pending ∧ (s.writeFormatSlot e).now = s.now ∧
    (s.writeFormatSlot e).freeUses = s.freeUses ∧ (s.writeFormatSlot e).inReset = s.inReset ∧
    (s.writeFormatSlot e).cutOff = s.cutOff ∧ (s.writeFormatSlot e).spindles = s.spindles ∧
    (s.writeFormatSlot e).waitList = s.waitList ∧ (s.writeFormatSlot e).activity = s.activity ∧
    (s.writeFormatSlot e).table = s.table ∧ (s.writeFormatSlot e).choiceHold = s.choiceHold ∧
    (s.writeFormatSlot e).chan = s.chan ∧ (s.writeFormatSlot e).stopRequest = s.stopRequest ∧
    (s.writeFormatSlot e).free = s.free ∧ (s.writeFormatSlot e).parser = s.parser ∧ (s.writeFormatSlot e).inbound = s.inbound ∧
    (s.writeFormatSlot e).replies = s.replies ∧ (s.writeFormatSlot e).stream = s.stream ∧ (s.writeFormatSlot e).line = s.line ∧
    (s.writeFormatSlot e).partSeq = s.partSeq ∧ (s.writeFormatSlot e).params = s.params ∧
    (s.writeFormatSlot e).restart = s.restart ∧ (s.writeFormatSlot e).events = s.events ∧
    (s.writeFormatSlot e).notice = s.notice := by
  repeat' constructor

@[simp] theorem State.headSwitch_frame (s : State) (a : Addr) :
    (s.headSwitch a).pending = s.pending ∧ (s.headSwitch a).now = s.now ∧ (s.headSwitch a).freeUses = s.freeUses ∧
    (s.headSwitch a).media = s.media ∧ (s.headSwitch a).inReset = s.inReset ∧ (s.headSwitch a).cutOff = s.cutOff ∧
    (s.headSwitch a).spindles = s.spindles ∧ (s.headSwitch a).waitList = s.waitList ∧ (s.headSwitch a).activity = s.activity ∧
    (s.headSwitch a).table = s.table ∧ (s.headSwitch a).choiceHold = s.choiceHold ∧
    (s.headSwitch a).stopRequest = s.stopRequest ∧ (s.headSwitch a).free = s.free ∧ (s.headSwitch a).parser = s.parser ∧
    (s.headSwitch a).inbound = s.inbound ∧ (s.headSwitch a).replies = s.replies ∧ (s.headSwitch a).stream = s.stream ∧
    (s.headSwitch a).line = s.line ∧ (s.headSwitch a).partSeq = s.partSeq ∧ (s.headSwitch a).params = s.params ∧
    (s.headSwitch a).restart = s.restart ∧ (s.headSwitch a).events = s.events ∧ (s.headSwitch a).notice = s.notice := by
  repeat' constructor

@[simp] theorem State.beginPass_frame (s : State) (x : PendingEntry) (d : Ending) :
    (s.beginPass x d).pending = s.pending ∧ (s.beginPass x d).now = s.now ∧ (s.beginPass x d).freeUses = s.freeUses ∧
    (s.beginPass x d).media = s.media ∧ (s.beginPass x d).inReset = s.inReset ∧ (s.beginPass x d).cutOff = s.cutOff ∧
    (s.beginPass x d).spindles = s.spindles ∧ (s.beginPass x d).waitList = s.waitList ∧
    (s.beginPass x d).activity = s.activity ∧ (s.beginPass x d).table = s.table ∧ (s.beginPass x d).choiceHold = s.choiceHold ∧
    (s.beginPass x d).stopRequest = s.stopRequest ∧ (s.beginPass x d).free = s.free ∧ (s.beginPass x d).parser = s.parser ∧
    (s.beginPass x d).inbound = s.inbound ∧ (s.beginPass x d).replies = s.replies ∧ (s.beginPass x d).stream = s.stream ∧
    (s.beginPass x d).line = s.line ∧ (s.beginPass x d).partSeq = s.partSeq ∧ (s.beginPass x d).params = s.params ∧
    (s.beginPass x d).restart = s.restart ∧ (s.beginPass x d).events = s.events ∧ (s.beginPass x d).notice = s.notice := by
  repeat' constructor

@[simp] theorem State.putParam_frame (s : State) (i : ParamId) (v : Nat) :
    (s.putParam i v).pending = s.pending ∧ (s.putParam i v).now = s.now ∧ (s.putParam i v).freeUses = s.freeUses ∧
    (s.putParam i v).media = s.media ∧ (s.putParam i v).inReset = s.inReset ∧ (s.putParam i v).cutOff = s.cutOff ∧
    (s.putParam i v).spindles = s.spindles ∧ (s.putParam i v).waitList = s.waitList ∧ (s.putParam i v).activity = s.activity ∧
    (s.putParam i v).table = s.table ∧ (s.putParam i v).choiceHold = s.choiceHold ∧ (s.putParam i v).chan = s.chan ∧
    (s.putParam i v).stopRequest = s.stopRequest ∧ (s.putParam i v).free = s.free ∧ (s.putParam i v).parser = s.parser ∧
    (s.putParam i v).inbound = s.inbound ∧ (s.putParam i v).replies = s.replies ∧ (s.putParam i v).stream = s.stream ∧
    (s.putParam i v).line = s.line ∧ (s.putParam i v).partSeq = s.partSeq ∧ (s.putParam i v).restart = s.restart ∧
    (s.putParam i v).events = s.events ∧ (s.putParam i v).notice = s.notice := by
  repeat' constructor

@[simp] theorem State.retimeAll_frame (s : State) (n : Nat) :
    (s.retimeAll n).pending = s.pending ∧ (s.retimeAll n).now = s.now ∧ (s.retimeAll n).freeUses = s.freeUses ∧
    (s.retimeAll n).media = s.media ∧ (s.retimeAll n).inReset = s.inReset ∧ (s.retimeAll n).cutOff = s.cutOff ∧
    (s.retimeAll n).spindles = s.spindles ∧ (s.retimeAll n).waitList = s.waitList ∧ (s.retimeAll n).activity = s.activity ∧
    (s.retimeAll n).choiceHold = s.choiceHold ∧ (s.retimeAll n).chan = s.chan ∧ (s.retimeAll n).stopRequest = s.stopRequest ∧
    (s.retimeAll n).free = s.free ∧ (s.retimeAll n).parser = s.parser ∧ (s.retimeAll n).inbound = s.inbound ∧
    (s.retimeAll n).replies = s.replies ∧ (s.retimeAll n).stream = s.stream ∧ (s.retimeAll n).line = s.line ∧
    (s.retimeAll n).partSeq = s.partSeq ∧ (s.retimeAll n).params = s.params ∧ (s.retimeAll n).restart = s.restart ∧
    (s.retimeAll n).events = s.events ∧ (s.retimeAll n).notice = s.notice := by
  repeat' constructor

@[simp] theorem State.stage_frame (s : State) (t : Tag) (n : Nat) (b : List Byte) :
    (s.stage t n b).pending = s.pending ∧ (s.stage t n b).now = s.now ∧ (s.stage t n b).freeUses = s.freeUses ∧
    (s.stage t n b).media = s.media ∧ (s.stage t n b).inReset = s.inReset ∧ (s.stage t n b).cutOff = s.cutOff ∧
    (s.stage t n b).spindles = s.spindles ∧ (s.stage t n b).waitList = s.waitList ∧ (s.stage t n b).activity = s.activity ∧
    (s.stage t n b).choiceHold = s.choiceHold ∧ (s.stage t n b).chan = s.chan ∧ (s.stage t n b).stopRequest = s.stopRequest ∧
    (s.stage t n b).parser = s.parser ∧ (s.stage t n b).inbound = s.inbound ∧ (s.stage t n b).replies = s.replies ∧
    (s.stage t n b).stream = s.stream ∧ (s.stage t n b).line = s.line ∧ (s.stage t n b).partSeq = s.partSeq ∧
    (s.stage t n b).params = s.params ∧ (s.stage t n b).restart = s.restart ∧ (s.stage t n b).events = s.events ∧
    (s.stage t n b).notice = s.notice := by
  repeat' constructor

@[simp] theorem State.setParser_frame (s : State) (x : Parser) :
    (s.setParser x).pending = s.pending ∧ (s.setParser x).now = s.now ∧ (s.setParser x).freeUses = s.freeUses ∧
    (s.setParser x).media = s.media ∧ (s.setParser x).inReset = s.inReset ∧ (s.setParser x).cutOff = s.cutOff ∧
    (s.setParser x).spindles = s.spindles ∧ (s.setParser x).waitList = s.waitList ∧ (s.setParser x).activity = s.activity ∧
    (s.setParser x).table = s.table ∧ (s.setParser x).choiceHold = s.choiceHold ∧ (s.setParser x).chan = s.chan ∧
    (s.setParser x).stopRequest = s.stopRequest ∧ (s.setParser x).free = s.free ∧ (s.setParser x).inbound = s.inbound ∧
    (s.setParser x).replies = s.replies ∧ (s.setParser x).stream = s.stream ∧ (s.setParser x).line = s.line ∧
    (s.setParser x).partSeq = s.partSeq ∧ (s.setParser x).params = s.params ∧ (s.setParser x).restart = s.restart ∧
    (s.setParser x).events = s.events ∧ (s.setParser x).notice = s.notice := by
  repeat' constructor

@[simp] theorem State.noteOverrun_frame (s : State) :
    (s.noteOverrun).pending = s.pending ∧ (s.noteOverrun).now = s.now ∧ (s.noteOverrun).freeUses = s.freeUses ∧
    (s.noteOverrun).media = s.media ∧ (s.noteOverrun).inReset = s.inReset ∧ (s.noteOverrun).cutOff = s.cutOff ∧
    (s.noteOverrun).spindles = s.spindles ∧ (s.noteOverrun).waitList = s.waitList ∧ (s.noteOverrun).activity = s.activity ∧
    (s.noteOverrun).table = s.table ∧ (s.noteOverrun).choiceHold = s.choiceHold ∧ (s.noteOverrun).chan = s.chan ∧
    (s.noteOverrun).stopRequest = s.stopRequest ∧ (s.noteOverrun).free = s.free ∧ (s.noteOverrun).parser = s.parser ∧
    (s.noteOverrun).inbound = s.inbound ∧ (s.noteOverrun).replies = s.replies ∧ (s.noteOverrun).stream = s.stream ∧
    (s.noteOverrun).line = s.line ∧ (s.noteOverrun).partSeq = s.partSeq ∧ (s.noteOverrun).params = s.params ∧
    (s.noteOverrun).restart = s.restart ∧ (s.noteOverrun).events = s.events := by
  repeat' constructor

@[simp] theorem State.noteCheckFailure_frame (s : State) :
    (s.noteCheckFailure).pending = s.pending ∧ (s.noteCheckFailure).now = s.now ∧ (s.noteCheckFailure).freeUses = s.freeUses ∧
    (s.noteCheckFailure).media = s.media ∧ (s.noteCheckFailure).inReset = s.inReset ∧ (s.noteCheckFailure).cutOff = s.cutOff ∧
    (s.noteCheckFailure).spindles = s.spindles ∧ (s.noteCheckFailure).waitList = s.waitList ∧
    (s.noteCheckFailure).activity = s.activity ∧ (s.noteCheckFailure).table = s.table ∧
    (s.noteCheckFailure).choiceHold = s.choiceHold ∧ (s.noteCheckFailure).chan = s.chan ∧
    (s.noteCheckFailure).stopRequest = s.stopRequest ∧ (s.noteCheckFailure).free = s.free ∧
    (s.noteCheckFailure).parser = s.parser ∧ (s.noteCheckFailure).inbound = s.inbound ∧
    (s.noteCheckFailure).replies = s.replies ∧ (s.noteCheckFailure).stream = s.stream ∧ (s.noteCheckFailure).line = s.line ∧
    (s.noteCheckFailure).partSeq = s.partSeq ∧ (s.noteCheckFailure).params = s.params ∧
    (s.noteCheckFailure).restart = s.restart ∧ (s.noteCheckFailure).events = s.events := by
  repeat' constructor

@[simp] theorem State.noteLengthError_frame (s : State) :
    (s.noteLengthError).pending = s.pending ∧ (s.noteLengthError).now = s.now ∧ (s.noteLengthError).freeUses = s.freeUses ∧
    (s.noteLengthError).media = s.media ∧ (s.noteLengthError).inReset = s.inReset ∧ (s.noteLengthError).cutOff = s.cutOff ∧
    (s.noteLengthError).spindles = s.spindles ∧ (s.noteLengthError).waitList = s.waitList ∧
    (s.noteLengthError).activity = s.activity ∧ (s.noteLengthError).table = s.table ∧
    (s.noteLengthError).choiceHold = s.choiceHold ∧ (s.noteLengthError).chan = s.chan ∧
    (s.noteLengthError).stopRequest = s.stopRequest ∧ (s.noteLengthError).free = s.free ∧
    (s.noteLengthError).parser = s.parser ∧ (s.noteLengthError).inbound = s.inbound ∧ (s.noteLengthError).replies = s.replies ∧
    (s.noteLengthError).stream = s.stream ∧ (s.noteLengthError).line = s.line ∧ (s.noteLengthError).partSeq = s.partSeq ∧
    (s.noteLengthError).params = s.params ∧ (s.noteLengthError).restart = s.restart ∧
    (s.noteLengthError).events = s.events := by
  repeat' constructor

@[simp] theorem State.noteGapTimeout_frame (s : State) :
    (s.noteGapTimeout).pending = s.pending ∧ (s.noteGapTimeout).now = s.now ∧ (s.noteGapTimeout).freeUses = s.freeUses ∧
    (s.noteGapTimeout).media = s.media ∧ (s.noteGapTimeout).inReset = s.inReset ∧ (s.noteGapTimeout).cutOff = s.cutOff ∧
    (s.noteGapTimeout).spindles = s.spindles ∧ (s.noteGapTimeout).waitList = s.waitList ∧
    (s.noteGapTimeout).activity = s.activity ∧ (s.noteGapTimeout).table = s.table ∧
    (s.noteGapTimeout).choiceHold = s.choiceHold ∧ (s.noteGapTimeout).chan = s.chan ∧
    (s.noteGapTimeout).stopRequest = s.stopRequest ∧ (s.noteGapTimeout).free = s.free ∧ (s.noteGapTimeout).parser = s.parser ∧
    (s.noteGapTimeout).inbound = s.inbound ∧ (s.noteGapTimeout).replies = s.replies ∧ (s.noteGapTimeout).stream = s.stream ∧
    (s.noteGapTimeout).line = s.line ∧ (s.noteGapTimeout).partSeq = s.partSeq ∧ (s.noteGapTimeout).params = s.params ∧
    (s.noteGapTimeout).restart = s.restart ∧ (s.noteGapTimeout).events = s.events := by
  repeat' constructor

@[simp] theorem State.pushInbound_frame (s : State) (f : Frame) :
    (s.pushInbound f).pending = s.pending ∧ (s.pushInbound f).now = s.now ∧ (s.pushInbound f).freeUses = s.freeUses ∧
    (s.pushInbound f).media = s.media ∧ (s.pushInbound f).inReset = s.inReset ∧ (s.pushInbound f).cutOff = s.cutOff ∧
    (s.pushInbound f).spindles = s.spindles ∧ (s.pushInbound f).waitList = s.waitList ∧
    (s.pushInbound f).activity = s.activity ∧ (s.pushInbound f).table = s.table ∧ (s.pushInbound f).choiceHold = s.choiceHold ∧
    (s.pushInbound f).chan = s.chan ∧ (s.pushInbound f).stopRequest = s.stopRequest ∧ (s.pushInbound f).free = s.free ∧
    (s.pushInbound f).parser = s.parser ∧ (s.pushInbound f).replies = s.replies ∧ (s.pushInbound f).stream = s.stream ∧
    (s.pushInbound f).line = s.line ∧ (s.pushInbound f).partSeq = s.partSeq ∧ (s.pushInbound f).params = s.params ∧
    (s.pushInbound f).restart = s.restart ∧ (s.pushInbound f).events = s.events ∧ (s.pushInbound f).notice = s.notice := by
  repeat' constructor

@[simp] theorem State.assertReset_frame (s : State) :
    (s.assertReset).pending = s.pending ∧ (s.assertReset).now = s.now ∧ (s.assertReset).freeUses = s.freeUses ∧
    (s.assertReset).media = s.media ∧ (s.assertReset).spindles = s.spindles ∧ (s.assertReset).waitList = s.waitList ∧
    (s.assertReset).activity = s.activity ∧ (s.assertReset).table = s.table ∧ (s.assertReset).choiceHold = s.choiceHold ∧
    (s.assertReset).chan = s.chan ∧ (s.assertReset).stopRequest = s.stopRequest ∧ (s.assertReset).free = s.free ∧
    (s.assertReset).inbound = s.inbound ∧ (s.assertReset).replies = s.replies ∧ (s.assertReset).stream = s.stream ∧
    (s.assertReset).partSeq = s.partSeq ∧ (s.assertReset).params = s.params ∧ (s.assertReset).restart = s.restart ∧
    (s.assertReset).events = s.events ∧ (s.assertReset).notice = s.notice := by
  repeat' constructor

@[simp] theorem State.setPres_frame (s : State) (p : Port) (b : Bool) :
    (s.setPres p b).pending = s.pending ∧ (s.setPres p b).now = s.now ∧ (s.setPres p b).freeUses = s.freeUses ∧
    (s.setPres p b).media = s.media ∧ (s.setPres p b).inReset = s.inReset ∧ (s.setPres p b).cutOff = s.cutOff ∧
    (s.setPres p b).waitList = s.waitList ∧ (s.setPres p b).activity = s.activity ∧ (s.setPres p b).table = s.table ∧
    (s.setPres p b).choiceHold = s.choiceHold ∧ (s.setPres p b).chan = s.chan ∧ (s.setPres p b).stopRequest = s.stopRequest ∧
    (s.setPres p b).free = s.free ∧ (s.setPres p b).parser = s.parser ∧ (s.setPres p b).inbound = s.inbound ∧
    (s.setPres p b).replies = s.replies ∧ (s.setPres p b).stream = s.stream ∧ (s.setPres p b).line = s.line ∧
    (s.setPres p b).partSeq = s.partSeq ∧ (s.setPres p b).params = s.params ∧ (s.setPres p b).restart = s.restart ∧
    (s.setPres p b).events = s.events ∧ (s.setPres p b).notice = s.notice := by
  repeat' constructor

@[simp] theorem State.setSpun_frame (s : State) (p : Port) (b : Bool) :
    (s.setSpun p b).pending = s.pending ∧ (s.setSpun p b).now = s.now ∧ (s.setSpun p b).freeUses = s.freeUses ∧
    (s.setSpun p b).media = s.media ∧ (s.setSpun p b).inReset = s.inReset ∧ (s.setSpun p b).cutOff = s.cutOff ∧
    (s.setSpun p b).waitList = s.waitList ∧ (s.setSpun p b).activity = s.activity ∧ (s.setSpun p b).table = s.table ∧
    (s.setSpun p b).choiceHold = s.choiceHold ∧ (s.setSpun p b).chan = s.chan ∧ (s.setSpun p b).stopRequest = s.stopRequest ∧
    (s.setSpun p b).free = s.free ∧ (s.setSpun p b).parser = s.parser ∧ (s.setSpun p b).inbound = s.inbound ∧
    (s.setSpun p b).replies = s.replies ∧ (s.setSpun p b).stream = s.stream ∧ (s.setSpun p b).line = s.line ∧
    (s.setSpun p b).partSeq = s.partSeq ∧ (s.setSpun p b).params = s.params ∧ (s.setSpun p b).restart = s.restart ∧
    (s.setSpun p b).events = s.events ∧ (s.setSpun p b).notice = s.notice := by
  repeat' constructor

@[simp] theorem State.setWpr_frame (s : State) (p : Port) (b : Bool) :
    (s.setWpr p b).pending = s.pending ∧ (s.setWpr p b).now = s.now ∧ (s.setWpr p b).freeUses = s.freeUses ∧
    (s.setWpr p b).media = s.media ∧ (s.setWpr p b).inReset = s.inReset ∧ (s.setWpr p b).cutOff = s.cutOff ∧
    (s.setWpr p b).waitList = s.waitList ∧ (s.setWpr p b).activity = s.activity ∧ (s.setWpr p b).table = s.table ∧
    (s.setWpr p b).choiceHold = s.choiceHold ∧ (s.setWpr p b).chan = s.chan ∧ (s.setWpr p b).stopRequest = s.stopRequest ∧
    (s.setWpr p b).free = s.free ∧ (s.setWpr p b).parser = s.parser ∧ (s.setWpr p b).inbound = s.inbound ∧
    (s.setWpr p b).replies = s.replies ∧ (s.setWpr p b).stream = s.stream ∧ (s.setWpr p b).line = s.line ∧
    (s.setWpr p b).partSeq = s.partSeq ∧ (s.setWpr p b).params = s.params ∧ (s.setWpr p b).restart = s.restart ∧
    (s.setWpr p b).events = s.events ∧ (s.setWpr p b).notice = s.notice := by
  repeat' constructor

@[simp] theorem State.setArm_frame (s : State) (p : Port) (a : Arm) :
    (s.setArm p a).pending = s.pending ∧ (s.setArm p a).now = s.now ∧ (s.setArm p a).freeUses = s.freeUses ∧
    (s.setArm p a).media = s.media ∧ (s.setArm p a).inReset = s.inReset ∧ (s.setArm p a).cutOff = s.cutOff ∧
    (s.setArm p a).waitList = s.waitList ∧ (s.setArm p a).activity = s.activity ∧ (s.setArm p a).table = s.table ∧
    (s.setArm p a).choiceHold = s.choiceHold ∧ (s.setArm p a).chan = s.chan ∧ (s.setArm p a).stopRequest = s.stopRequest ∧
    (s.setArm p a).free = s.free ∧ (s.setArm p a).parser = s.parser ∧ (s.setArm p a).inbound = s.inbound ∧
    (s.setArm p a).replies = s.replies ∧ (s.setArm p a).stream = s.stream ∧ (s.setArm p a).line = s.line ∧
    (s.setArm p a).partSeq = s.partSeq ∧ (s.setArm p a).params = s.params ∧ (s.setArm p a).restart = s.restart ∧
    (s.setArm p a).events = s.events ∧ (s.setArm p a).notice = s.notice := by
  repeat' constructor

@[simp] theorem State.modTracker_frame (s : State) (p : Port) (f : Tracker → Tracker) :
    (s.modTracker p f).pending = s.pending ∧ (s.modTracker p f).now = s.now ∧ (s.modTracker p f).freeUses = s.freeUses ∧
    (s.modTracker p f).media = s.media ∧ (s.modTracker p f).inReset = s.inReset ∧ (s.modTracker p f).cutOff = s.cutOff ∧
    (s.modTracker p f).waitList = s.waitList ∧ (s.modTracker p f).activity = s.activity ∧ (s.modTracker p f).table = s.table ∧
    (s.modTracker p f).choiceHold = s.choiceHold ∧ (s.modTracker p f).chan = s.chan ∧
    (s.modTracker p f).stopRequest = s.stopRequest ∧ (s.modTracker p f).free = s.free ∧ (s.modTracker p f).parser = s.parser ∧
    (s.modTracker p f).inbound = s.inbound ∧ (s.modTracker p f).replies = s.replies ∧ (s.modTracker p f).stream = s.stream ∧
    (s.modTracker p f).line = s.line ∧ (s.modTracker p f).partSeq = s.partSeq ∧ (s.modTracker p f).params = s.params ∧
    (s.modTracker p f).restart = s.restart ∧ (s.modTracker p f).events = s.events ∧ (s.modTracker p f).notice = s.notice := by
  repeat' constructor

@[simp] theorem State.setPhase_frame (s : State) (h : Phase) :
    (s.setPhase h).pending = s.pending ∧ (s.setPhase h).now = s.now ∧ (s.setPhase h).freeUses = s.freeUses ∧
    (s.setPhase h).media = s.media ∧ (s.setPhase h).inReset = s.inReset ∧ (s.setPhase h).cutOff = s.cutOff ∧
    (s.setPhase h).spindles = s.spindles ∧ (s.setPhase h).waitList = s.waitList ∧ (s.setPhase h).activity = s.activity ∧
    (s.setPhase h).table = s.table ∧ (s.setPhase h).choiceHold = s.choiceHold ∧ (s.setPhase h).stopRequest = s.stopRequest ∧
    (s.setPhase h).free = s.free ∧ (s.setPhase h).parser = s.parser ∧ (s.setPhase h).inbound = s.inbound ∧
    (s.setPhase h).replies = s.replies ∧ (s.setPhase h).stream = s.stream ∧ (s.setPhase h).line = s.line ∧
    (s.setPhase h).partSeq = s.partSeq ∧ (s.setPhase h).params = s.params ∧ (s.setPhase h).restart = s.restart ∧
    (s.setPhase h).events = s.events ∧ (s.setPhase h).notice = s.notice := by
  repeat' constructor

@[simp] theorem State.slotRead_frame (s : State) :
    s.slotRead.pending = s.pending ∧ s.slotRead.now = s.now ∧ s.slotRead.freeUses = s.freeUses ∧ s.slotRead.media = s.media ∧
    s.slotRead.inReset = s.inReset ∧ s.slotRead.cutOff = s.cutOff ∧ s.slotRead.spindles = s.spindles ∧
    s.slotRead.waitList = s.waitList ∧ s.slotRead.activity = s.activity ∧ s.slotRead.table = s.table ∧
    s.slotRead.choiceHold = s.choiceHold ∧ s.slotRead.stopRequest = s.stopRequest ∧ s.slotRead.free = s.free ∧
    s.slotRead.parser = s.parser ∧ s.slotRead.inbound = s.inbound ∧ s.slotRead.replies = s.replies ∧
    s.slotRead.stream = s.stream ∧ s.slotRead.line = s.line ∧ s.slotRead.partSeq = s.partSeq ∧ s.slotRead.params = s.params ∧
    s.slotRead.restart = s.restart ∧ s.slotRead.events = s.events ∧ s.slotRead.notice = s.notice := by
  repeat' constructor

@[simp] theorem State.noteJudged_frame (s : State) (b : Bool) :
    (s.noteJudged b).pending = s.pending ∧ (s.noteJudged b).now = s.now ∧ (s.noteJudged b).freeUses = s.freeUses ∧
    (s.noteJudged b).media = s.media ∧ (s.noteJudged b).inReset = s.inReset ∧ (s.noteJudged b).cutOff = s.cutOff ∧
    (s.noteJudged b).spindles = s.spindles ∧ (s.noteJudged b).waitList = s.waitList ∧ (s.noteJudged b).activity = s.activity ∧
    (s.noteJudged b).table = s.table ∧ (s.noteJudged b).choiceHold = s.choiceHold ∧
    (s.noteJudged b).stopRequest = s.stopRequest ∧ (s.noteJudged b).free = s.free ∧ (s.noteJudged b).parser = s.parser ∧
    (s.noteJudged b).inbound = s.inbound ∧ (s.noteJudged b).replies = s.replies ∧ (s.noteJudged b).stream = s.stream ∧
    (s.noteJudged b).line = s.line ∧ (s.noteJudged b).partSeq = s.partSeq ∧ (s.noteJudged b).params = s.params ∧
    (s.noteJudged b).restart = s.restart ∧ (s.noteJudged b).events = s.events ∧ (s.noteJudged b).notice = s.notice := by
  repeat' constructor

@[simp] theorem State.deliver_frame (s : State) (e : Engagement) (d : List Word) (x : Bool) :
    (s.deliver e d x).pending = s.pending ∧ (s.deliver e d x).now = s.now ∧ (s.deliver e d x).freeUses = s.freeUses ∧
    (s.deliver e d x).media = s.media ∧ (s.deliver e d x).inReset = s.inReset ∧ (s.deliver e d x).cutOff = s.cutOff ∧
    (s.deliver e d x).spindles = s.spindles ∧ (s.deliver e d x).waitList = s.waitList ∧
    (s.deliver e d x).activity = s.activity ∧ (s.deliver e d x).table = s.table ∧ (s.deliver e d x).choiceHold = s.choiceHold ∧
    (s.deliver e d x).chan = s.chan ∧ (s.deliver e d x).stopRequest = s.stopRequest ∧ (s.deliver e d x).free = s.free ∧
    (s.deliver e d x).parser = s.parser ∧ (s.deliver e d x).inbound = s.inbound ∧ (s.deliver e d x).replies = s.replies ∧
    (s.deliver e d x).line = s.line ∧ (s.deliver e d x).partSeq = s.partSeq ∧ (s.deliver e d x).params = s.params ∧
    (s.deliver e d x).restart = s.restart ∧ (s.deliver e d x).events = s.events ∧ (s.deliver e d x).notice = s.notice := by
  repeat' constructor

@[simp] theorem State.writeSector_frame (s : State) (e : Engagement) (w : Word) (n : Nat) (b : Buffer) :
    (s.writeSector e w n b).pending = s.pending ∧ (s.writeSector e w n b).now = s.now ∧
    (s.writeSector e w n b).freeUses = s.freeUses ∧ (s.writeSector e w n b).inReset = s.inReset ∧
    (s.writeSector e w n b).cutOff = s.cutOff ∧ (s.writeSector e w n b).spindles = s.spindles ∧
    (s.writeSector e w n b).waitList = s.waitList ∧ (s.writeSector e w n b).activity = s.activity ∧
    (s.writeSector e w n b).table = s.table ∧ (s.writeSector e w n b).choiceHold = s.choiceHold ∧
    (s.writeSector e w n b).chan = s.chan ∧ (s.writeSector e w n b).stopRequest = s.stopRequest ∧
    (s.writeSector e w n b).free = s.free ∧ (s.writeSector e w n b).parser = s.parser ∧
    (s.writeSector e w n b).inbound = s.inbound ∧ (s.writeSector e w n b).replies = s.replies ∧
    (s.writeSector e w n b).stream = s.stream ∧ (s.writeSector e w n b).line = s.line ∧
    (s.writeSector e w n b).partSeq = s.partSeq ∧ (s.writeSector e w n b).params = s.params ∧
    (s.writeSector e w n b).restart = s.restart ∧ (s.writeSector e w n b).events = s.events ∧
    (s.writeSector e w n b).notice = s.notice := by
  repeat' constructor

@[simp] theorem State.pendSector_frame (s : State) (e : Engagement) (w : Word) (b : Buffer) :
    (s.pendSector e w b).pending = s.pending ∧ (s.pendSector e w b).now = s.now ∧ (s.pendSector e w b).freeUses = s.freeUses ∧
    (s.pendSector e w b).media = s.media ∧ (s.pendSector e w b).inReset = s.inReset ∧ (s.pendSector e w b).cutOff = s.cutOff ∧
    (s.pendSector e w b).spindles = s.spindles ∧ (s.pendSector e w b).waitList = s.waitList ∧
    (s.pendSector e w b).activity = s.activity ∧ (s.pendSector e w b).table = s.table ∧
    (s.pendSector e w b).choiceHold = s.choiceHold ∧ (s.pendSector e w b).stopRequest = s.stopRequest ∧
    (s.pendSector e w b).free = s.free ∧ (s.pendSector e w b).parser = s.parser ∧ (s.pendSector e w b).inbound = s.inbound ∧
    (s.pendSector e w b).replies = s.replies ∧ (s.pendSector e w b).stream = s.stream ∧ (s.pendSector e w b).line = s.line ∧
    (s.pendSector e w b).partSeq = s.partSeq ∧ (s.pendSector e w b).params = s.params ∧
    (s.pendSector e w b).restart = s.restart ∧ (s.pendSector e w b).events = s.events ∧
    (s.pendSector e w b).notice = s.notice := by
  repeat' constructor

@[simp] theorem State.pin_frame (s : State) (p : Port) :
    (s.pin p).pending = s.pending ∧ (s.pin p).now = s.now ∧ (s.pin p).freeUses = s.freeUses ∧ (s.pin p).media = s.media ∧
    (s.pin p).inReset = s.inReset ∧ (s.pin p).cutOff = s.cutOff ∧ (s.pin p).waitList = s.waitList ∧
    (s.pin p).activity = s.activity ∧ (s.pin p).table = s.table ∧ (s.pin p).choiceHold = s.choiceHold ∧
    (s.pin p).chan = s.chan ∧ (s.pin p).stopRequest = s.stopRequest ∧ (s.pin p).free = s.free ∧ (s.pin p).parser = s.parser ∧
    (s.pin p).inbound = s.inbound ∧ (s.pin p).replies = s.replies ∧ (s.pin p).stream = s.stream ∧ (s.pin p).line = s.line ∧
    (s.pin p).partSeq = s.partSeq ∧ (s.pin p).params = s.params ∧ (s.pin p).restart = s.restart ∧ (s.pin p).events = s.events ∧
    (s.pin p).notice = s.notice := by
  repeat' constructor

@[simp] theorem State.unpin_frame (s : State) (p : Port) :
    (s.unpin p).pending = s.pending ∧ (s.unpin p).now = s.now ∧ (s.unpin p).freeUses = s.freeUses ∧
    (s.unpin p).media = s.media ∧ (s.unpin p).inReset = s.inReset ∧ (s.unpin p).cutOff = s.cutOff ∧
    (s.unpin p).waitList = s.waitList ∧ (s.unpin p).activity = s.activity ∧ (s.unpin p).table = s.table ∧
    (s.unpin p).choiceHold = s.choiceHold ∧ (s.unpin p).chan = s.chan ∧ (s.unpin p).stopRequest = s.stopRequest ∧
    (s.unpin p).free = s.free ∧ (s.unpin p).parser = s.parser ∧ (s.unpin p).inbound = s.inbound ∧
    (s.unpin p).replies = s.replies ∧ (s.unpin p).stream = s.stream ∧ (s.unpin p).line = s.line ∧
    (s.unpin p).partSeq = s.partSeq ∧ (s.unpin p).params = s.params ∧ (s.unpin p).restart = s.restart ∧
    (s.unpin p).events = s.events ∧ (s.unpin p).notice = s.notice := by
  repeat' constructor

@[simp] theorem State.tick_frame (s : State) :
    (s.tick).pending = s.pending ∧ (s.tick).freeUses = s.freeUses ∧ (s.tick).media = s.media ∧ (s.tick).inReset = s.inReset ∧
    (s.tick).cutOff = s.cutOff ∧ (s.tick).spindles = s.spindles ∧ (s.tick).waitList = s.waitList ∧
    (s.tick).activity = s.activity ∧ (s.tick).table = s.table ∧ (s.tick).choiceHold = s.choiceHold ∧ (s.tick).chan = s.chan ∧
    (s.tick).stopRequest = s.stopRequest ∧ (s.tick).free = s.free ∧ (s.tick).parser = s.parser ∧ (s.tick).inbound = s.inbound ∧
    (s.tick).replies = s.replies ∧ (s.tick).stream = s.stream ∧ (s.tick).line = s.line ∧ (s.tick).partSeq = s.partSeq ∧
    (s.tick).params = s.params ∧ (s.tick).restart = s.restart ∧ (s.tick).events = s.events ∧ (s.tick).notice = s.notice := by
  repeat' constructor

@[simp] theorem State.setTable_table (s : State) (x : List Request) : (s.setTable x).table = x := rfl

@[simp] theorem State.setStream_stream (s : State) (x : List StreamEntry) : (s.setStream x).stream = x := rfl

@[simp] theorem State.setWaitList_waitList (s : State) (x : List Port) : (s.setWaitList x).waitList = x := rfl

@[simp] theorem State.setActivity_activity (s : State) (x : List Port) : (s.setActivity x).activity = x := rfl

@[simp] theorem State.setChan_chan (s : State) (x : Option Engagement) : (s.setChan x).chan = x := rfl

@[simp] theorem State.setFree_free (s : State) (x : Nat) : (s.setFree x).free = x := rfl

@[simp] theorem State.setLine_line (s : State) (x : Option OutFrame) : (s.setLine x).line = x := rfl

@[simp] theorem State.setReplies_replies (s : State) (x : List Reply) : (s.setReplies x).replies = x := rfl

@[simp] theorem State.setEvents_events (s : State) (x : List EventRecord) : (s.setEvents x).events = x := rfl

@[simp] theorem State.setNotice_notice (s : State) (x : Notice) : (s.setNotice x).notice = x := rfl

@[simp] theorem State.setParser_parser (s : State) (x : Parser) : (s.setParser x).parser = x := rfl

@[simp] theorem State.endRestart_restart (s : State) : s.endRestart.restart = none := rfl

@[simp] theorem State.endRestart_choiceHold (s : State) : s.endRestart.choiceHold = false := rfl

@[simp] theorem State.endRestart_stopRequest (s : State) : s.endRestart.stopRequest = false := rfl

@[simp] theorem State.beginRestart_restart (s : State) (x : Byte) : (s.beginRestart x).restart = some x := rfl

@[simp] theorem State.beginRestart_choiceHold (s : State) (x : Byte) : (s.beginRestart x).choiceHold = true := rfl

@[simp] theorem State.beginRestart_stopRequest (s : State) (x : Byte) : (s.beginRestart x).stopRequest = true := rfl

@[simp] theorem State.popInbound_inbound (s : State) : s.popInbound.inbound = s.inbound.tail := rfl

@[simp] theorem State.pushInbound_inbound (s : State) (f : Frame) : (s.pushInbound f).inbound = s.inbound ++ [f] := rfl

@[simp] theorem State.pushReply_replies (s : State) (k q : Byte) (c : Code) (b : List Byte) : (s.pushReply k q c b).replies = 
      s.replies ++ [⟨k, q, c, s.free, s.freeSlots, b⟩] := rfl

@[simp] theorem State.touchActivity_activity (s : State) (p : Port) : (s.touchActivity p).activity = toTail p s.activity := rfl

@[simp] theorem State.clockTo_now (s : State) (n : Nat) : (s.clockTo n).now = max s.now n := rfl

@[simp] theorem State.modChan_chan (s : State) (f : Engagement → Engagement) : (s.modChan f).chan = s.chan.map f := rfl

@[simp] theorem State.slotRead_chan (s : State) : s.slotRead.chan = s.chan.map fun e => { e with slotMarked := false } := rfl
@[simp] theorem State.noteJudged_chan (s : State) (b : Bool) :
    (s.noteJudged b).chan = s.chan.map fun e => { e with lastJudged := b } := rfl

@[simp] theorem State.setPhase_chan (s : State) (h : Phase) : (s.setPhase h).chan = s.chan.map fun e => { e with phase := h } := rfl

@[simp] theorem State.modRequest_table (s : State) (t : Tag) (f : Request → Request) : (s.modRequest t f).table = 
      s.table.map fun r => if r.tag = t then f r else r := rfl

@[simp] theorem State.post_events (s : State) (p : Port) (k : EventSet) : (s.post p k).events = 
      postInto p k (s.spindle p).state (if (s.spindle p).state = .faulted then (s.spindle p).cause else none) s.events := rfl

@[simp] theorem State.putParam_params (s : State) (i : ParamId) (v : Nat) : (s.putParam i v).params = s.params.put v i := rfl

@[simp] theorem State.engage_chan (s : State) (r : Request) : (s.engage r).chan = some (engagementOf r) := rfl

@[simp] theorem State.transmit_line (s : State) (k : Byte) (b : List Byte) (h : Bool) : (s.transmit k b h).line = some ⟨k, s.partSeq, b, h⟩ := rfl

@[simp] theorem State.transmit_partSeq (s : State) (k : Byte) (b : List Byte) (h : Bool) : (s.transmit k b h).partSeq = s.partSeq + 1 := rfl

end Sys2Proof.Machine
end

