-- ==== Sys2Proof/Laws/Frames.lean ====
section
/-! SUPPORT. Frames of the shared operations and of the commands' effects: for each, the fields of State that it leaves alone, in
every case it has. -/

namespace Sys2Proof.Machine

/-- A fold keeps what each of its steps keeps. -/
theorem foldl_keeps {α β : Type} (g : State → β) (f : State → α → State) (h : ∀ u x, g (f u x) = g u) (l : List α) (s : State) :
    g (l.foldl f s) = g s := by
  induction l generalizing s with
  | nil => rfl
  | cons x l ih => rw [List.foldl_cons, ih, h]

@[simp] theorem State.returnBuffers_frame (s : State) (n : Nat) :
    (s.returnBuffers n).pending = s.pending ∧ (s.returnBuffers n).now = s.now ∧ (s.returnBuffers n).freeUses = s.freeUses ∧
    (s.returnBuffers n).media = s.media ∧ (s.returnBuffers n).inReset = s.inReset ∧ (s.returnBuffers n).cutOff = s.cutOff ∧
    (s.returnBuffers n).spindles = s.spindles ∧ (s.returnBuffers n).waitList = s.waitList ∧
    (s.returnBuffers n).activity = s.activity ∧ (s.returnBuffers n).choiceHold = s.choiceHold ∧
    (s.returnBuffers n).chan = s.chan ∧ (s.returnBuffers n).stopRequest = s.stopRequest ∧
    (s.returnBuffers n).parser = s.parser ∧ (s.returnBuffers n).inbound = s.inbound ∧ (s.returnBuffers n).replies = s.replies ∧
    (s.returnBuffers n).stream = s.stream ∧ (s.returnBuffers n).line = s.line ∧ (s.returnBuffers n).partSeq = s.partSeq ∧
    (s.returnBuffers n).params = s.params ∧ (s.returnBuffers n).restart = s.restart ∧ (s.returnBuffers n).events = s.events ∧
    (s.returnBuffers n).notice = s.notice := by
  unfold State.returnBuffers
  try dsimp only
  repeat' split
  all_goals simp

@[simp] theorem State.closeChannel_frame (s : State) :
    (s.closeChannel).pending = s.pending ∧ (s.closeChannel).now = s.now ∧ (s.closeChannel).freeUses = s.freeUses ∧
    (s.closeChannel).media = s.media ∧ (s.closeChannel).inReset = s.inReset ∧ (s.closeChannel).cutOff = s.cutOff ∧
    (s.closeChannel).spindles = s.spindles ∧ (s.closeChannel).waitList = s.waitList ∧ (s.closeChannel).activity = s.activity ∧
    (s.closeChannel).choiceHold = s.choiceHold ∧ (s.closeChannel).stopRequest = s.stopRequest ∧
    (s.closeChannel).parser = s.parser ∧ (s.closeChannel).inbound = s.inbound ∧ (s.closeChannel).replies = s.replies ∧
    (s.closeChannel).stream = s.stream ∧ (s.closeChannel).line = s.line ∧ (s.closeChannel).partSeq = s.partSeq ∧
    (s.closeChannel).params = s.params ∧ (s.closeChannel).restart = s.restart ∧ (s.closeChannel).events = s.events ∧
    (s.closeChannel).notice = s.notice := by
  unfold State.closeChannel
  try dsimp only
  repeat' split
  all_goals simp

@[simp] theorem State.tearSector_frame (s : State) :
    (s.tearSector).pending = s.pending ∧ (s.tearSector).now = s.now ∧ (s.tearSector).inReset = s.inReset ∧
    (s.tearSector).cutOff = s.cutOff ∧ (s.tearSector).spindles = s.spindles ∧ (s.tearSector).waitList = s.waitList ∧
    (s.tearSector).activity = s.activity ∧ (s.tearSector).table = s.table ∧ (s.tearSector).choiceHold = s.choiceHold ∧
    (s.tearSector).chan = s.chan ∧ (s.tearSector).stopRequest = s.stopRequest ∧ (s.tearSector).free = s.free ∧
    (s.tearSector).parser = s.parser ∧ (s.tearSector).inbound = s.inbound ∧ (s.tearSector).replies = s.replies ∧
    (s.tearSector).stream = s.stream ∧ (s.tearSector).line = s.line ∧ (s.tearSector).partSeq = s.partSeq ∧
    (s.tearSector).params = s.params ∧ (s.tearSector).restart = s.restart ∧ (s.tearSector).events = s.events ∧
    (s.tearSector).notice = s.notice := by
  unfold State.tearSector
  try dsimp only
  repeat' split
  all_goals simp

@[simp] theorem State.countWholeSlot_frame (s : State) :
    (s.countWholeSlot).pending = s.pending ∧ (s.countWholeSlot).now = s.now ∧ (s.countWholeSlot).inReset = s.inReset ∧
    (s.countWholeSlot).cutOff = s.cutOff ∧ (s.countWholeSlot).spindles = s.spindles ∧ (s.countWholeSlot).waitList = s.waitList ∧
    (s.countWholeSlot).activity = s.activity ∧ (s.countWholeSlot).media = s.media ∧ (s.countWholeSlot).freeUses = s.freeUses ∧
    (s.countWholeSlot).choiceHold = s.choiceHold ∧ (s.countWholeSlot).chan = s.chan ∧
    (s.countWholeSlot).stopRequest = s.stopRequest ∧ (s.countWholeSlot).free = s.free ∧ (s.countWholeSlot).parser = s.parser ∧
    (s.countWholeSlot).inbound = s.inbound ∧ (s.countWholeSlot).replies = s.replies ∧ (s.countWholeSlot).stream = s.stream ∧
    (s.countWholeSlot).line = s.line ∧ (s.countWholeSlot).partSeq = s.partSeq ∧ (s.countWholeSlot).params = s.params ∧
    (s.countWholeSlot).restart = s.restart ∧ (s.countWholeSlot).events = s.events ∧ (s.countWholeSlot).notice = s.notice := by
  unfold State.countWholeSlot
  try dsimp only
  repeat' split
  all_goals simp

@[simp] theorem State.abortChannel_frame (s : State) (p : Port) :
    (s.abortChannel p).pending = s.pending ∧ (s.abortChannel p).now = s.now ∧ (s.abortChannel p).inReset = s.inReset ∧
    (s.abortChannel p).cutOff = s.cutOff ∧ (s.abortChannel p).spindles = s.spindles ∧ (s.abortChannel p).waitList = s.waitList ∧
    (s.abortChannel p).activity = s.activity ∧ (s.abortChannel p).choiceHold = s.choiceHold ∧
    (s.abortChannel p).stopRequest = s.stopRequest ∧ (s.abortChannel p).parser = s.parser ∧
    (s.abortChannel p).inbound = s.inbound ∧ (s.abortChannel p).replies = s.replies ∧ (s.abortChannel p).stream = s.stream ∧
    (s.abortChannel p).line = s.line ∧ (s.abortChannel p).partSeq = s.partSeq ∧ (s.abortChannel p).params = s.params ∧
    (s.abortChannel p).restart = s.restart ∧ (s.abortChannel p).events = s.events ∧ (s.abortChannel p).notice = s.notice := by
  unfold State.abortChannel
  try dsimp only
  repeat' split
  all_goals simp

@[simp] theorem State.disengage_frame (s : State) (t : Tag) :
    (s.disengage t).pending = s.pending ∧ (s.disengage t).now = s.now ∧ (s.disengage t).freeUses = s.freeUses ∧
    (s.disengage t).media = s.media ∧ (s.disengage t).inReset = s.inReset ∧ (s.disengage t).cutOff = s.cutOff ∧
    (s.disengage t).spindles = s.spindles ∧ (s.disengage t).waitList = s.waitList ∧ (s.disengage t).activity = s.activity ∧
    (s.disengage t).choiceHold = s.choiceHold ∧ (s.disengage t).stopRequest = s.stopRequest ∧
    (s.disengage t).parser = s.parser ∧ (s.disengage t).inbound = s.inbound ∧ (s.disengage t).replies = s.replies ∧
    (s.disengage t).stream = s.stream ∧ (s.disengage t).line = s.line ∧ (s.disengage t).partSeq = s.partSeq ∧
    (s.disengage t).params = s.params ∧ (s.disengage t).restart = s.restart ∧ (s.disengage t).events = s.events ∧
    (s.disengage t).notice = s.notice := by
  unfold State.disengage
  try dsimp only
  repeat' split
  all_goals simp

@[simp] theorem State.startIdle_frame (s : State) (p : Port) :
    (s.startIdle p).pending = s.pending ∧ (s.startIdle p).now = s.now ∧ (s.startIdle p).freeUses = s.freeUses ∧
    (s.startIdle p).media = s.media ∧ (s.startIdle p).inReset = s.inReset ∧ (s.startIdle p).cutOff = s.cutOff ∧
    (s.startIdle p).waitList = s.waitList ∧ (s.startIdle p).activity = s.activity ∧ (s.startIdle p).table = s.table ∧
    (s.startIdle p).choiceHold = s.choiceHold ∧ (s.startIdle p).chan = s.chan ∧ (s.startIdle p).stopRequest = s.stopRequest ∧
    (s.startIdle p).free = s.free ∧ (s.startIdle p).parser = s.parser ∧ (s.startIdle p).inbound = s.inbound ∧
    (s.startIdle p).replies = s.replies ∧ (s.startIdle p).stream = s.stream ∧ (s.startIdle p).line = s.line ∧
    (s.startIdle p).partSeq = s.partSeq ∧ (s.startIdle p).params = s.params ∧ (s.startIdle p).restart = s.restart ∧
    (s.startIdle p).events = s.events ∧ (s.startIdle p).notice = s.notice := by
  unfold State.startIdle
  try dsimp only
  repeat' (first | simp; done | split)

@[simp] theorem State.complete_frame (s : State) (t : Tag) (o : Outcome) (c : Option Cause) :
    (s.complete t o c).pending = s.pending ∧ (s.complete t o c).now = s.now ∧ (s.complete t o c).freeUses = s.freeUses ∧
    (s.complete t o c).media = s.media ∧ (s.complete t o c).inReset = s.inReset ∧ (s.complete t o c).cutOff = s.cutOff ∧
    (s.complete t o c).waitList = s.waitList ∧ (s.complete t o c).choiceHold = s.choiceHold ∧
    (s.complete t o c).stopRequest = s.stopRequest ∧ (s.complete t o c).parser = s.parser ∧
    (s.complete t o c).inbound = s.inbound ∧ (s.complete t o c).replies = s.replies ∧ (s.complete t o c).line = s.line ∧
    (s.complete t o c).partSeq = s.partSeq ∧ (s.complete t o c).params = s.params ∧ (s.complete t o c).restart = s.restart ∧
    (s.complete t o c).events = s.events ∧ (s.complete t o c).notice = s.notice := by
  unfold State.complete
  try dsimp only
  repeat' (first | simp; done | split)

@[simp] theorem State.completeAll_frame (s : State) (p : Port) (o : Outcome) (c : Option Cause) :
    (s.completeAll p o c).pending = s.pending ∧ (s.completeAll p o c).now = s.now ∧
    (s.completeAll p o c).freeUses = s.freeUses ∧ (s.completeAll p o c).media = s.media ∧
    (s.completeAll p o c).inReset = s.inReset ∧ (s.completeAll p o c).cutOff = s.cutOff ∧
    (s.completeAll p o c).waitList = s.waitList ∧ (s.completeAll p o c).choiceHold = s.choiceHold ∧
    (s.completeAll p o c).stopRequest = s.stopRequest ∧ (s.completeAll p o c).parser = s.parser ∧
    (s.completeAll p o c).inbound = s.inbound ∧ (s.completeAll p o c).replies = s.replies ∧
    (s.completeAll p o c).line = s.line ∧ (s.completeAll p o c).partSeq = s.partSeq ∧ (s.completeAll p o c).params = s.params ∧
    (s.completeAll p o c).restart = s.restart ∧ (s.completeAll p o c).events = s.events ∧
    (s.completeAll p o c).notice = s.notice := by
  unfold State.completeAll
  refine ⟨?_, ?_, ?_, ?_, ?_, ?_, ?_, ?_, ?_, ?_, ?_, ?_, ?_, ?_, ?_, ?_, ?_⟩ <;> simp [foldl_keeps]

@[simp] theorem State.enterState_frame (s : State) (p : Port) (x : SpindleState) :
    (s.enterState p x).pending = s.pending ∧ (s.enterState p x).now = s.now ∧ (s.enterState p x).freeUses = s.freeUses ∧
    (s.enterState p x).media = s.media ∧ (s.enterState p x).inReset = s.inReset ∧ (s.enterState p x).cutOff = s.cutOff ∧
    (s.enterState p x).activity = s.activity ∧ (s.enterState p x).choiceHold = s.choiceHold ∧ (s.enterState p x).chan = s.chan ∧
    (s.enterState p x).stopRequest = s.stopRequest ∧ (s.enterState p x).free = s.free ∧ (s.enterState p x).parser = s.parser ∧
    (s.enterState p x).inbound = s.inbound ∧ (s.enterState p x).replies = s.replies ∧ (s.enterState p x).stream = s.stream ∧
    (s.enterState p x).line = s.line ∧ (s.enterState p x).partSeq = s.partSeq ∧ (s.enterState p x).params = s.params ∧
    (s.enterState p x).restart = s.restart ∧ (s.enterState p x).notice = s.notice := by
  unfold State.enterState
  try dsimp only
  repeat' (first | simp; done | split)

@[simp] theorem State.joinWait_frame (s : State) (p : Port) :
    (s.joinWait p).pending = s.pending ∧ (s.joinWait p).now = s.now ∧ (s.joinWait p).freeUses = s.freeUses ∧
    (s.joinWait p).media = s.media ∧ (s.joinWait p).inReset = s.inReset ∧ (s.joinWait p).cutOff = s.cutOff ∧
    (s.joinWait p).activity = s.activity ∧ (s.joinWait p).choiceHold = s.choiceHold ∧ (s.joinWait p).chan = s.chan ∧
    (s.joinWait p).stopRequest = s.stopRequest ∧ (s.joinWait p).free = s.free ∧ (s.joinWait p).parser = s.parser ∧
    (s.joinWait p).inbound = s.inbound ∧ (s.joinWait p).replies = s.replies ∧ (s.joinWait p).stream = s.stream ∧
    (s.joinWait p).line = s.line ∧ (s.joinWait p).partSeq = s.partSeq ∧ (s.joinWait p).params = s.params ∧
    (s.joinWait p).restart = s.restart ∧ (s.joinWait p).notice = s.notice := by
  unfold State.joinWait
  try dsimp only
  simp

@[simp] theorem State.issueRestore_frame (s : State) (p : Port) :
    (s.issueRestore p).pending = s.pending ∧ (s.issueRestore p).now = s.now ∧ (s.issueRestore p).freeUses = s.freeUses ∧
    (s.issueRestore p).media = s.media ∧ (s.issueRestore p).inReset = s.inReset ∧ (s.issueRestore p).cutOff = s.cutOff ∧
    (s.issueRestore p).waitList = s.waitList ∧ (s.issueRestore p).activity = s.activity ∧ (s.issueRestore p).table = s.table ∧
    (s.issueRestore p).choiceHold = s.choiceHold ∧ (s.issueRestore p).chan = s.chan ∧
    (s.issueRestore p).stopRequest = s.stopRequest ∧ (s.issueRestore p).free = s.free ∧ (s.issueRestore p).parser = s.parser ∧
    (s.issueRestore p).inbound = s.inbound ∧ (s.issueRestore p).replies = s.replies ∧ (s.issueRestore p).stream = s.stream ∧
    (s.issueRestore p).line = s.line ∧ (s.issueRestore p).partSeq = s.partSeq ∧ (s.issueRestore p).params = s.params ∧
    (s.issueRestore p).restart = s.restart ∧ (s.issueRestore p).events = s.events ∧ (s.issueRestore p).notice = s.notice := by
  unfold State.issueRestore
  try dsimp only
  repeat' split
  all_goals simp

@[simp] theorem State.endSpinDown_frame (s : State) (p : Port) :
    (s.endSpinDown p).pending = s.pending ∧ (s.endSpinDown p).now = s.now ∧ (s.endSpinDown p).freeUses = s.freeUses ∧
    (s.endSpinDown p).media = s.media ∧ (s.endSpinDown p).inReset = s.inReset ∧ (s.endSpinDown p).cutOff = s.cutOff ∧
    (s.endSpinDown p).activity = s.activity ∧ (s.endSpinDown p).choiceHold = s.choiceHold ∧ (s.endSpinDown p).chan = s.chan ∧
    (s.endSpinDown p).stopRequest = s.stopRequest ∧ (s.endSpinDown p).free = s.free ∧ (s.endSpinDown p).parser = s.parser ∧
    (s.endSpinDown p).inbound = s.inbound ∧ (s.endSpinDown p).replies = s.replies ∧ (s.endSpinDown p).stream = s.stream ∧
    (s.endSpinDown p).line = s.line ∧ (s.endSpinDown p).partSeq = s.partSeq ∧ (s.endSpinDown p).params = s.params ∧
    (s.endSpinDown p).restart = s.restart ∧ (s.endSpinDown p).notice = s.notice := by
  unfold State.endSpinDown
  try dsimp only
  repeat' split
  all_goals simp

@[simp] theorem State.enterSpinningDown_frame (s : State) (p : Port) :
    (s.enterSpinningDown p).pending = s.pending ∧ (s.enterSpinningDown p).now = s.now ∧
    (s.enterSpinningDown p).freeUses = s.freeUses ∧ (s.enterSpinningDown p).media = s.media ∧
    (s.enterSpinningDown p).inReset = s.inReset ∧ (s.enterSpinningDown p).cutOff = s.cutOff ∧
    (s.enterSpinningDown p).activity = s.activity ∧ (s.enterSpinningDown p).choiceHold = s.choiceHold ∧
    (s.enterSpinningDown p).chan = s.chan ∧ (s.enterSpinningDown p).stopRequest = s.stopRequest ∧
    (s.enterSpinningDown p).free = s.free ∧ (s.enterSpinningDown p).parser = s.parser ∧
    (s.enterSpinningDown p).inbound = s.inbound ∧ (s.enterSpinningDown p).replies = s.replies ∧
    (s.enterSpinningDown p).stream = s.stream ∧ (s.enterSpinningDown p).line = s.line ∧
    (s.enterSpinningDown p).partSeq = s.partSeq ∧ (s.enterSpinningDown p).params = s.params ∧
    (s.enterSpinningDown p).restart = s.restart ∧ (s.enterSpinningDown p).notice = s.notice := by
  unfold State.enterSpinningDown
  try dsimp only
  repeat' split
  all_goals simp

@[simp] theorem State.enterFaulted_frame (s : State) (p : Port) (c : Cause) :
    (s.enterFaulted p c).pending = s.pending ∧ (s.enterFaulted p c).now = s.now ∧ (s.enterFaulted p c).inReset = s.inReset ∧
    (s.enterFaulted p c).cutOff = s.cutOff ∧ (s.enterFaulted p c).choiceHold = s.choiceHold ∧
    (s.enterFaulted p c).stopRequest = s.stopRequest ∧ (s.enterFaulted p c).parser = s.parser ∧
    (s.enterFaulted p c).inbound = s.inbound ∧ (s.enterFaulted p c).replies = s.replies ∧ (s.enterFaulted p c).line = s.line ∧
    (s.enterFaulted p c).partSeq = s.partSeq ∧ (s.enterFaulted p c).params = s.params ∧
    (s.enterFaulted p c).restart = s.restart ∧ (s.enterFaulted p c).notice = s.notice := by
  unfold State.enterFaulted
  try dsimp only
  simp

@[simp] theorem State.enterAbsent_frame (s : State) (p : Port) :
    (s.enterAbsent p).pending = s.pending ∧ (s.enterAbsent p).now = s.now ∧ (s.enterAbsent p).inReset = s.inReset ∧
    (s.enterAbsent p).cutOff = s.cutOff ∧ (s.enterAbsent p).choiceHold = s.choiceHold ∧
    (s.enterAbsent p).stopRequest = s.stopRequest ∧ (s.enterAbsent p).parser = s.parser ∧
    (s.enterAbsent p).inbound = s.inbound ∧ (s.enterAbsent p).replies = s.replies ∧ (s.enterAbsent p).line = s.line ∧
    (s.enterAbsent p).partSeq = s.partSeq ∧ (s.enterAbsent p).params = s.params ∧ (s.enterAbsent p).restart = s.restart ∧
    (s.enterAbsent p).notice = s.notice := by
  unfold State.enterAbsent
  try dsimp only
  simp

@[simp] theorem State.startHead_frame (s : State) :
    (s.startHead).pending = s.pending ∧ (s.startHead).now = s.now ∧ (s.startHead).freeUses = s.freeUses ∧
    (s.startHead).media = s.media ∧ (s.startHead).inReset = s.inReset ∧ (s.startHead).cutOff = s.cutOff ∧
    (s.startHead).activity = s.activity ∧ (s.startHead).choiceHold = s.choiceHold ∧ (s.startHead).chan = s.chan ∧
    (s.startHead).stopRequest = s.stopRequest ∧ (s.startHead).free = s.free ∧ (s.startHead).parser = s.parser ∧
    (s.startHead).inbound = s.inbound ∧ (s.startHead).replies = s.replies ∧ (s.startHead).stream = s.stream ∧
    (s.startHead).line = s.line ∧ (s.startHead).partSeq = s.partSeq ∧ (s.startHead).params = s.params ∧
    (s.startHead).restart = s.restart ∧ (s.startHead).notice = s.notice := by
  unfold State.startHead
  try dsimp only
  repeat' split
  all_goals simp

@[simp] theorem State.budgetRounds_frame (n : Nat) (s : State) :
    (State.budgetRounds n s).pending = s.pending ∧ (State.budgetRounds n s).now = s.now ∧
    (State.budgetRounds n s).freeUses = s.freeUses ∧ (State.budgetRounds n s).media = s.media ∧
    (State.budgetRounds n s).inReset = s.inReset ∧ (State.budgetRounds n s).cutOff = s.cutOff ∧
    (State.budgetRounds n s).activity = s.activity ∧ (State.budgetRounds n s).choiceHold = s.choiceHold ∧
    (State.budgetRounds n s).chan = s.chan ∧ (State.budgetRounds n s).stopRequest = s.stopRequest ∧
    (State.budgetRounds n s).free = s.free ∧ (State.budgetRounds n s).parser = s.parser ∧
    (State.budgetRounds n s).inbound = s.inbound ∧ (State.budgetRounds n s).replies = s.replies ∧
    (State.budgetRounds n s).stream = s.stream ∧ (State.budgetRounds n s).line = s.line ∧
    (State.budgetRounds n s).partSeq = s.partSeq ∧ (State.budgetRounds n s).params = s.params ∧
    (State.budgetRounds n s).restart = s.restart ∧ (State.budgetRounds n s).notice = s.notice := by
  induction n generalizing s with
  | zero => simp [State.budgetRounds]
  | succ n ih =>
    simp only [State.budgetRounds]
    split
    · simp [ih]
    · split <;> simp [ih]

@[simp] theorem State.evalBudget_frame (s : State) :
    (s.evalBudget).pending = s.pending ∧ (s.evalBudget).now = s.now ∧ (s.evalBudget).freeUses = s.freeUses ∧
    (s.evalBudget).media = s.media ∧ (s.evalBudget).inReset = s.inReset ∧ (s.evalBudget).cutOff = s.cutOff ∧
    (s.evalBudget).activity = s.activity ∧ (s.evalBudget).choiceHold = s.choiceHold ∧ (s.evalBudget).chan = s.chan ∧
    (s.evalBudget).stopRequest = s.stopRequest ∧ (s.evalBudget).free = s.free ∧ (s.evalBudget).parser = s.parser ∧
    (s.evalBudget).inbound = s.inbound ∧ (s.evalBudget).replies = s.replies ∧ (s.evalBudget).stream = s.stream ∧
    (s.evalBudget).line = s.line ∧ (s.evalBudget).partSeq = s.partSeq ∧ (s.evalBudget).params = s.params ∧
    (s.evalBudget).restart = s.restart ∧ (s.evalBudget).notice = s.notice := by
  simp [State.evalBudget]

@[simp] theorem State.registerDemand_frame (s : State) (p : Port) :
    (s.registerDemand p).pending = s.pending ∧ (s.registerDemand p).now = s.now ∧ (s.registerDemand p).freeUses = s.freeUses ∧
    (s.registerDemand p).media = s.media ∧ (s.registerDemand p).inReset = s.inReset ∧ (s.registerDemand p).cutOff = s.cutOff ∧
    (s.registerDemand p).activity = s.activity ∧ (s.registerDemand p).choiceHold = s.choiceHold ∧
    (s.registerDemand p).chan = s.chan ∧ (s.registerDemand p).stopRequest = s.stopRequest ∧ (s.registerDemand p).free = s.free ∧
    (s.registerDemand p).parser = s.parser ∧ (s.registerDemand p).inbound = s.inbound ∧
    (s.registerDemand p).replies = s.replies ∧ (s.registerDemand p).stream = s.stream ∧ (s.registerDemand p).line = s.line ∧
    (s.registerDemand p).partSeq = s.partSeq ∧ (s.registerDemand p).params = s.params ∧
    (s.registerDemand p).restart = s.restart ∧ (s.registerDemand p).notice = s.notice := by
  unfold State.registerDemand
  try dsimp only
  repeat' split
  all_goals simp

@[simp] theorem State.chooseSeek_frame (s : State) (p : Port) :
    (s.chooseSeek p).pending = s.pending ∧ (s.chooseSeek p).now = s.now ∧ (s.chooseSeek p).freeUses = s.freeUses ∧
    (s.chooseSeek p).media = s.media ∧ (s.chooseSeek p).inReset = s.inReset ∧ (s.chooseSeek p).cutOff = s.cutOff ∧
    (s.chooseSeek p).waitList = s.waitList ∧ (s.chooseSeek p).activity = s.activity ∧ (s.chooseSeek p).table = s.table ∧
    (s.chooseSeek p).choiceHold = s.choiceHold ∧ (s.chooseSeek p).chan = s.chan ∧ (s.chooseSeek p).stopRequest = s.stopRequest ∧
    (s.chooseSeek p).free = s.free ∧ (s.chooseSeek p).parser = s.parser ∧ (s.chooseSeek p).inbound = s.inbound ∧
    (s.chooseSeek p).replies = s.replies ∧ (s.chooseSeek p).stream = s.stream ∧ (s.chooseSeek p).line = s.line ∧
    (s.chooseSeek p).partSeq = s.partSeq ∧ (s.chooseSeek p).params = s.params ∧ (s.chooseSeek p).restart = s.restart ∧
    (s.chooseSeek p).events = s.events ∧ (s.chooseSeek p).notice = s.notice := by
  unfold State.chooseSeek
  try dsimp only
  repeat' split
  all_goals simp

@[simp] theorem State.chooseChannel_frame (s : State) :
    (s.chooseChannel).pending = s.pending ∧ (s.chooseChannel).now = s.now ∧ (s.chooseChannel).freeUses = s.freeUses ∧
    (s.chooseChannel).media = s.media ∧ (s.chooseChannel).inReset = s.inReset ∧ (s.chooseChannel).cutOff = s.cutOff ∧
    (s.chooseChannel).spindles = s.spindles ∧ (s.chooseChannel).waitList = s.waitList ∧
    (s.chooseChannel).activity = s.activity ∧ (s.chooseChannel).choiceHold = s.choiceHold ∧
    (s.chooseChannel).stopRequest = s.stopRequest ∧ (s.chooseChannel).free = s.free ∧ (s.chooseChannel).parser = s.parser ∧
    (s.chooseChannel).inbound = s.inbound ∧ (s.chooseChannel).replies = s.replies ∧ (s.chooseChannel).stream = s.stream ∧
    (s.chooseChannel).line = s.line ∧ (s.chooseChannel).partSeq = s.partSeq ∧ (s.chooseChannel).params = s.params ∧
    (s.chooseChannel).restart = s.restart ∧ (s.chooseChannel).events = s.events ∧ (s.chooseChannel).notice = s.notice := by
  unfold State.chooseChannel
  try dsimp only
  repeat' split
  all_goals simp

@[simp] theorem State.reevaluate_frame (s : State) :
    (s.reevaluate).pending = s.pending ∧ (s.reevaluate).now = s.now ∧ (s.reevaluate).freeUses = s.freeUses ∧
    (s.reevaluate).media = s.media ∧ (s.reevaluate).inReset = s.inReset ∧ (s.reevaluate).cutOff = s.cutOff ∧
    (s.reevaluate).waitList = s.waitList ∧ (s.reevaluate).activity = s.activity ∧ (s.reevaluate).choiceHold = s.choiceHold ∧
    (s.reevaluate).stopRequest = s.stopRequest ∧ (s.reevaluate).free = s.free ∧ (s.reevaluate).parser = s.parser ∧
    (s.reevaluate).inbound = s.inbound ∧ (s.reevaluate).replies = s.replies ∧ (s.reevaluate).stream = s.stream ∧
    (s.reevaluate).line = s.line ∧ (s.reevaluate).partSeq = s.partSeq ∧ (s.reevaluate).params = s.params ∧
    (s.reevaluate).restart = s.restart ∧ (s.reevaluate).events = s.events ∧ (s.reevaluate).notice = s.notice := by
  unfold State.reevaluate
  split
  · simp
  · refine ⟨?_, ?_, ?_, ?_, ?_, ?_, ?_, ?_, ?_, ?_, ?_, ?_, ?_, ?_, ?_, ?_, ?_, ?_, ?_, ?_⟩ <;> simp [foldl_keeps]

@[simp] theorem State.restartPark_frame (s : State) (p : Port) :
    (s.restartPark p).pending = s.pending ∧ (s.restartPark p).now = s.now ∧ (s.restartPark p).freeUses = s.freeUses ∧
    (s.restartPark p).media = s.media ∧ (s.restartPark p).inReset = s.inReset ∧ (s.restartPark p).cutOff = s.cutOff ∧
    (s.restartPark p).activity = s.activity ∧ (s.restartPark p).choiceHold = s.choiceHold ∧ (s.restartPark p).chan = s.chan ∧
    (s.restartPark p).stopRequest = s.stopRequest ∧ (s.restartPark p).free = s.free ∧ (s.restartPark p).parser = s.parser ∧
    (s.restartPark p).inbound = s.inbound ∧ (s.restartPark p).replies = s.replies ∧ (s.restartPark p).stream = s.stream ∧
    (s.restartPark p).line = s.line ∧ (s.restartPark p).partSeq = s.partSeq ∧ (s.restartPark p).params = s.params ∧
    (s.restartPark p).restart = s.restart ∧ (s.restartPark p).notice = s.notice := by
  unfold State.restartPark
  try dsimp only
  repeat' split
  all_goals simp

@[simp] theorem State.flushOutbound_frame (s : State) :
    (s.flushOutbound).pending = s.pending ∧ (s.flushOutbound).now = s.now ∧ (s.flushOutbound).freeUses = s.freeUses ∧
    (s.flushOutbound).media = s.media ∧ (s.flushOutbound).inReset = s.inReset ∧ (s.flushOutbound).cutOff = s.cutOff ∧
    (s.flushOutbound).spindles = s.spindles ∧ (s.flushOutbound).waitList = s.waitList ∧
    (s.flushOutbound).activity = s.activity ∧ (s.flushOutbound).choiceHold = s.choiceHold ∧ (s.flushOutbound).chan = s.chan ∧
    (s.flushOutbound).stopRequest = s.stopRequest ∧ (s.flushOutbound).parser = s.parser ∧
    (s.flushOutbound).inbound = s.inbound ∧ (s.flushOutbound).replies = s.replies ∧ (s.flushOutbound).line = s.line ∧
    (s.flushOutbound).partSeq = s.partSeq ∧ (s.flushOutbound).params = s.params ∧ (s.flushOutbound).restart = s.restart := by
  unfold State.flushOutbound
  try dsimp only
  simp

@[simp] theorem State.removeRequests_frame (s : State) :
    (s.removeRequests).pending = s.pending ∧ (s.removeRequests).now = s.now ∧ (s.removeRequests).freeUses = s.freeUses ∧
    (s.removeRequests).media = s.media ∧ (s.removeRequests).inReset = s.inReset ∧ (s.removeRequests).cutOff = s.cutOff ∧
    (s.removeRequests).waitList = s.waitList ∧ (s.removeRequests).activity = s.activity ∧
    (s.removeRequests).choiceHold = s.choiceHold ∧ (s.removeRequests).chan = s.chan ∧
    (s.removeRequests).stopRequest = s.stopRequest ∧ (s.removeRequests).parser = s.parser ∧
    (s.removeRequests).inbound = s.inbound ∧ (s.removeRequests).replies = s.replies ∧ (s.removeRequests).stream = s.stream ∧
    (s.removeRequests).line = s.line ∧ (s.removeRequests).partSeq = s.partSeq ∧ (s.removeRequests).params = s.params ∧
    (s.removeRequests).restart = s.restart ∧ (s.removeRequests).events = s.events ∧ (s.removeRequests).notice = s.notice := by
  unfold State.removeRequests
  refine ⟨?_, ?_, ?_, ?_, ?_, ?_, ?_, ?_, ?_, ?_, ?_, ?_, ?_, ?_, ?_, ?_, ?_, ?_, ?_, ?_⟩ <;> simp [foldl_keeps]

@[simp] theorem State.restartSpindles_frame (s : State) (l : List Port) :
    (s.restartSpindles l).pending = s.pending ∧ (s.restartSpindles l).now = s.now ∧
    (s.restartSpindles l).freeUses = s.freeUses ∧ (s.restartSpindles l).media = s.media ∧
    (s.restartSpindles l).inReset = s.inReset ∧ (s.restartSpindles l).cutOff = s.cutOff ∧
    (s.restartSpindles l).choiceHold = s.choiceHold ∧ (s.restartSpindles l).chan = s.chan ∧
    (s.restartSpindles l).stopRequest = s.stopRequest ∧ (s.restartSpindles l).free = s.free ∧
    (s.restartSpindles l).parser = s.parser ∧ (s.restartSpindles l).inbound = s.inbound ∧
    (s.restartSpindles l).replies = s.replies ∧ (s.restartSpindles l).stream = s.stream ∧ (s.restartSpindles l).line = s.line ∧
    (s.restartSpindles l).partSeq = s.partSeq ∧ (s.restartSpindles l).params = s.params ∧
    (s.restartSpindles l).restart = s.restart ∧ (s.restartSpindles l).notice = s.notice := by
  unfold State.restartSpindles
  refine ⟨?_, ?_, ?_, ?_, ?_, ?_, ?_, ?_, ?_, ?_, ?_, ?_, ?_, ?_, ?_, ?_, ?_, ?_⟩ <;> simp [foldl_keeps]

@[simp] theorem State.clearingStep_frame (s : State) (l : List Port) :
    (s.clearingStep l).pending = s.pending ∧ (s.clearingStep l).now = s.now ∧ (s.clearingStep l).freeUses = s.freeUses ∧
    (s.clearingStep l).media = s.media ∧ (s.clearingStep l).inReset = s.inReset ∧ (s.clearingStep l).cutOff = s.cutOff ∧
    (s.clearingStep l).chan = s.chan ∧ (s.clearingStep l).parser = s.parser ∧ (s.clearingStep l).inbound = s.inbound ∧
    (s.clearingStep l).line = s.line ∧ (s.clearingStep l).partSeq = s.partSeq ∧ (s.clearingStep l).params = s.params := by
  unfold State.clearingStep
  try dsimp only
  simp

@[simp] theorem State.arbitrate_frame (s : State) :
    (s.arbitrate).pending = s.pending ∧ (s.arbitrate).now = s.now ∧ (s.arbitrate).freeUses = s.freeUses ∧
    (s.arbitrate).media = s.media ∧ (s.arbitrate).inReset = s.inReset ∧ (s.arbitrate).cutOff = s.cutOff ∧
    (s.arbitrate).spindles = s.spindles ∧ (s.arbitrate).waitList = s.waitList ∧ (s.arbitrate).activity = s.activity ∧
    (s.arbitrate).table = s.table ∧ (s.arbitrate).choiceHold = s.choiceHold ∧ (s.arbitrate).chan = s.chan ∧
    (s.arbitrate).stopRequest = s.stopRequest ∧ (s.arbitrate).free = s.free ∧ (s.arbitrate).parser = s.parser ∧
    (s.arbitrate).inbound = s.inbound ∧ (s.arbitrate).params = s.params ∧ (s.arbitrate).restart = s.restart := by
  unfold State.arbitrate
  try dsimp only
  repeat' (first | simp; done | split)

@[simp] theorem State.release_frame (s : State) (t : Tag) (b : Bool) :
    (s.release t b).pending = s.pending ∧ (s.release t b).now = s.now ∧ (s.release t b).freeUses = s.freeUses ∧
    (s.release t b).media = s.media ∧ (s.release t b).inReset = s.inReset ∧ (s.release t b).cutOff = s.cutOff ∧
    (s.release t b).waitList = s.waitList ∧ (s.release t b).choiceHold = s.choiceHold ∧
    (s.release t b).stopRequest = s.stopRequest ∧ (s.release t b).parser = s.parser ∧ (s.release t b).inbound = s.inbound ∧
    (s.release t b).replies = s.replies ∧ (s.release t b).line = s.line ∧ (s.release t b).partSeq = s.partSeq ∧
    (s.release t b).params = s.params ∧ (s.release t b).restart = s.restart ∧ (s.release t b).events = s.events ∧
    (s.release t b).notice = s.notice := by
  unfold State.release
  try dsimp only
  repeat' split
  all_goals simp

@[simp] theorem State.completeRun_frame (s : State) (t : Tag) :
    (s.completeRun t).pending = s.pending ∧ (s.completeRun t).now = s.now ∧ (s.completeRun t).freeUses = s.freeUses ∧
    (s.completeRun t).media = s.media ∧ (s.completeRun t).inReset = s.inReset ∧ (s.completeRun t).cutOff = s.cutOff ∧
    (s.completeRun t).waitList = s.waitList ∧ (s.completeRun t).choiceHold = s.choiceHold ∧
    (s.completeRun t).stopRequest = s.stopRequest ∧ (s.completeRun t).parser = s.parser ∧
    (s.completeRun t).inbound = s.inbound ∧ (s.completeRun t).replies = s.replies ∧ (s.completeRun t).line = s.line ∧
    (s.completeRun t).partSeq = s.partSeq ∧ (s.completeRun t).params = s.params ∧ (s.completeRun t).restart = s.restart ∧
    (s.completeRun t).events = s.events ∧ (s.completeRun t).notice = s.notice := by
  unfold State.completeRun
  try dsimp only
  repeat' split
  all_goals simp

@[simp] theorem State.armLost_frame (s : State) (p : Port) :
    (s.armLost p).pending = s.pending ∧ (s.armLost p).now = s.now ∧ (s.armLost p).freeUses = s.freeUses ∧
    (s.armLost p).media = s.media ∧ (s.armLost p).inReset = s.inReset ∧ (s.armLost p).cutOff = s.cutOff ∧
    (s.armLost p).waitList = s.waitList ∧ (s.armLost p).activity = s.activity ∧ (s.armLost p).table = s.table ∧
    (s.armLost p).choiceHold = s.choiceHold ∧ (s.armLost p).chan = s.chan ∧ (s.armLost p).stopRequest = s.stopRequest ∧
    (s.armLost p).free = s.free ∧ (s.armLost p).parser = s.parser ∧ (s.armLost p).inbound = s.inbound ∧
    (s.armLost p).replies = s.replies ∧ (s.armLost p).stream = s.stream ∧ (s.armLost p).line = s.line ∧
    (s.armLost p).partSeq = s.partSeq ∧ (s.armLost p).params = s.params ∧ (s.armLost p).restart = s.restart ∧
    (s.armLost p).notice = s.notice := by
  unfold State.armLost
  try dsimp only
  simp

@[simp] theorem State.positionError_frame (s : State) (e : Engagement) :
    (s.positionError e).pending = s.pending ∧ (s.positionError e).now = s.now ∧ (s.positionError e).freeUses = s.freeUses ∧
    (s.positionError e).media = s.media ∧ (s.positionError e).inReset = s.inReset ∧ (s.positionError e).cutOff = s.cutOff ∧
    (s.positionError e).waitList = s.waitList ∧ (s.positionError e).choiceHold = s.choiceHold ∧
    (s.positionError e).stopRequest = s.stopRequest ∧ (s.positionError e).parser = s.parser ∧
    (s.positionError e).inbound = s.inbound ∧ (s.positionError e).replies = s.replies ∧ (s.positionError e).line = s.line ∧
    (s.positionError e).partSeq = s.partSeq ∧ (s.positionError e).params = s.params ∧ (s.positionError e).restart = s.restart ∧
    (s.positionError e).notice = s.notice := by
  unfold State.positionError
  try dsimp only
  repeat' split
  all_goals simp

@[simp] theorem State.carryOut_frame (s : State) (e : Engagement) (d : Ending) :
    (s.carryOut e d).pending = s.pending ∧ (s.carryOut e d).now = s.now ∧ (s.carryOut e d).freeUses = s.freeUses ∧
    (s.carryOut e d).media = s.media ∧ (s.carryOut e d).inReset = s.inReset ∧ (s.carryOut e d).cutOff = s.cutOff ∧
    (s.carryOut e d).waitList = s.waitList ∧ (s.carryOut e d).choiceHold = s.choiceHold ∧
    (s.carryOut e d).stopRequest = s.stopRequest ∧ (s.carryOut e d).parser = s.parser ∧ (s.carryOut e d).inbound = s.inbound ∧
    (s.carryOut e d).replies = s.replies ∧ (s.carryOut e d).line = s.line ∧ (s.carryOut e d).partSeq = s.partSeq ∧
    (s.carryOut e d).params = s.params ∧ (s.carryOut e d).restart = s.restart ∧ (s.carryOut e d).notice = s.notice := by
  unfold State.carryOut
  try dsimp only
  repeat' split
  all_goals simp

@[simp] theorem State.endWith_frame (s : State) (d : Ending) :
    (s.endWith d).pending = s.pending ∧ (s.endWith d).now = s.now ∧ (s.endWith d).freeUses = s.freeUses ∧
    (s.endWith d).media = s.media ∧ (s.endWith d).inReset = s.inReset ∧ (s.endWith d).cutOff = s.cutOff ∧
    (s.endWith d).waitList = s.waitList ∧ (s.endWith d).choiceHold = s.choiceHold ∧ (s.endWith d).stopRequest = s.stopRequest ∧
    (s.endWith d).parser = s.parser ∧ (s.endWith d).inbound = s.inbound ∧ (s.endWith d).replies = s.replies ∧
    (s.endWith d).line = s.line ∧ (s.endWith d).partSeq = s.partSeq ∧ (s.endWith d).params = s.params ∧
    (s.endWith d).restart = s.restart ∧ (s.endWith d).notice = s.notice := by
  unfold State.endWith
  try dsimp only
  repeat' split
  all_goals simp

@[simp] theorem State.afterSector_frame (s : State) (b : Bool) :
    (s.afterSector b).pending = s.pending ∧ (s.afterSector b).now = s.now ∧ (s.afterSector b).freeUses = s.freeUses ∧
    (s.afterSector b).media = s.media ∧ (s.afterSector b).inReset = s.inReset ∧ (s.afterSector b).cutOff = s.cutOff ∧
    (s.afterSector b).waitList = s.waitList ∧ (s.afterSector b).choiceHold = s.choiceHold ∧
    (s.afterSector b).stopRequest = s.stopRequest ∧ (s.afterSector b).parser = s.parser ∧
    (s.afterSector b).inbound = s.inbound ∧ (s.afterSector b).replies = s.replies ∧ (s.afterSector b).line = s.line ∧
    (s.afterSector b).partSeq = s.partSeq ∧ (s.afterSector b).params = s.params ∧ (s.afterSector b).restart = s.restart ∧
    (s.afterSector b).notice = s.notice := by
  unfold State.afterSector
  try dsimp only
  repeat' (first | simp; done | split)

@[simp] theorem State.searchFailed_frame (s : State) :
    (s.searchFailed).pending = s.pending ∧ (s.searchFailed).now = s.now ∧ (s.searchFailed).freeUses = s.freeUses ∧
    (s.searchFailed).media = s.media ∧ (s.searchFailed).inReset = s.inReset ∧ (s.searchFailed).cutOff = s.cutOff ∧
    (s.searchFailed).waitList = s.waitList ∧ (s.searchFailed).choiceHold = s.choiceHold ∧
    (s.searchFailed).stopRequest = s.stopRequest ∧ (s.searchFailed).parser = s.parser ∧ (s.searchFailed).inbound = s.inbound ∧
    (s.searchFailed).replies = s.replies ∧ (s.searchFailed).line = s.line ∧ (s.searchFailed).partSeq = s.partSeq ∧
    (s.searchFailed).params = s.params ∧ (s.searchFailed).restart = s.restart ∧ (s.searchFailed).notice = s.notice := by
  unfold State.searchFailed
  try dsimp only
  repeat' split
  all_goals simp

@[simp] theorem State.passPositionError_frame (s : State) (e : Engagement) :
    (s.passPositionError e).pending = s.pending ∧ (s.passPositionError e).now = s.now ∧
    (s.passPositionError e).freeUses = s.freeUses ∧ (s.passPositionError e).media = s.media ∧
    (s.passPositionError e).inReset = s.inReset ∧ (s.passPositionError e).cutOff = s.cutOff ∧
    (s.passPositionError e).waitList = s.waitList ∧ (s.passPositionError e).choiceHold = s.choiceHold ∧
    (s.passPositionError e).stopRequest = s.stopRequest ∧ (s.passPositionError e).parser = s.parser ∧
    (s.passPositionError e).inbound = s.inbound ∧ (s.passPositionError e).replies = s.replies ∧
    (s.passPositionError e).line = s.line ∧ (s.passPositionError e).partSeq = s.partSeq ∧
    (s.passPositionError e).params = s.params ∧ (s.passPositionError e).restart = s.restart ∧
    (s.passPositionError e).notice = s.notice := by
  unfold State.passPositionError
  try dsimp only
  simp

@[simp] theorem State.stopChannel_frame (s : State) :
    (s.stopChannel).pending = s.pending ∧ (s.stopChannel).now = s.now ∧ (s.stopChannel).freeUses = s.freeUses ∧
    (s.stopChannel).media = s.media ∧ (s.stopChannel).inReset = s.inReset ∧ (s.stopChannel).cutOff = s.cutOff ∧
    (s.stopChannel).spindles = s.spindles ∧ (s.stopChannel).waitList = s.waitList ∧ (s.stopChannel).activity = s.activity ∧
    (s.stopChannel).choiceHold = s.choiceHold ∧ (s.stopChannel).stopRequest = s.stopRequest ∧
    (s.stopChannel).parser = s.parser ∧ (s.stopChannel).inbound = s.inbound ∧ (s.stopChannel).replies = s.replies ∧
    (s.stopChannel).stream = s.stream ∧ (s.stopChannel).line = s.line ∧ (s.stopChannel).partSeq = s.partSeq ∧
    (s.stopChannel).params = s.params ∧ (s.stopChannel).restart = s.restart ∧ (s.stopChannel).events = s.events ∧
    (s.stopChannel).notice = s.notice := by
  unfold State.stopChannel
  try dsimp only
  simp

@[simp] theorem State.cancelNow_frame (s : State) (t : Tag) :
    (s.cancelNow t).pending = s.pending ∧ (s.cancelNow t).now = s.now ∧ (s.cancelNow t).freeUses = s.freeUses ∧
    (s.cancelNow t).media = s.media ∧ (s.cancelNow t).inReset = s.inReset ∧ (s.cancelNow t).cutOff = s.cutOff ∧
    (s.cancelNow t).waitList = s.waitList ∧ (s.cancelNow t).choiceHold = s.choiceHold ∧
    (s.cancelNow t).stopRequest = s.stopRequest ∧ (s.cancelNow t).parser = s.parser ∧ (s.cancelNow t).inbound = s.inbound ∧
    (s.cancelNow t).replies = s.replies ∧ (s.cancelNow t).line = s.line ∧ (s.cancelNow t).partSeq = s.partSeq ∧
    (s.cancelNow t).params = s.params ∧ (s.cancelNow t).restart = s.restart ∧ (s.cancelNow t).events = s.events ∧
    (s.cancelNow t).notice = s.notice := by
  unfold State.cancelNow
  try dsimp only
  repeat' split
  all_goals simp

@[simp] theorem State.formatSlotEnd_frame (s : State) (b : Bool) :
    (s.formatSlotEnd b).pending = s.pending ∧ (s.formatSlotEnd b).now = s.now ∧ (s.formatSlotEnd b).freeUses = s.freeUses ∧
    (s.formatSlotEnd b).inReset = s.inReset ∧ (s.formatSlotEnd b).cutOff = s.cutOff ∧
    (s.formatSlotEnd b).waitList = s.waitList ∧ (s.formatSlotEnd b).choiceHold = s.choiceHold ∧
    (s.formatSlotEnd b).stopRequest = s.stopRequest ∧ (s.formatSlotEnd b).parser = s.parser ∧
    (s.formatSlotEnd b).inbound = s.inbound ∧ (s.formatSlotEnd b).replies = s.replies ∧ (s.formatSlotEnd b).line = s.line ∧
    (s.formatSlotEnd b).partSeq = s.partSeq ∧ (s.formatSlotEnd b).params = s.params ∧ (s.formatSlotEnd b).restart = s.restart ∧
    (s.formatSlotEnd b).events = s.events ∧ (s.formatSlotEnd b).notice = s.notice := by
  unfold State.formatSlotEnd
  try dsimp only
  repeat' (first | simp; done | split)

@[simp] theorem State.capErrors_frame (s : State) (n : Nat) :
    (s.capErrors n).pending = s.pending ∧ (s.capErrors n).now = s.now ∧ (s.capErrors n).freeUses = s.freeUses ∧
    (s.capErrors n).media = s.media ∧ (s.capErrors n).inReset = s.inReset ∧ (s.capErrors n).cutOff = s.cutOff ∧
    (s.capErrors n).waitList = s.waitList ∧ (s.capErrors n).activity = s.activity ∧ (s.capErrors n).table = s.table ∧
    (s.capErrors n).choiceHold = s.choiceHold ∧ (s.capErrors n).chan = s.chan ∧ (s.capErrors n).stopRequest = s.stopRequest ∧
    (s.capErrors n).free = s.free ∧ (s.capErrors n).parser = s.parser ∧ (s.capErrors n).inbound = s.inbound ∧
    (s.capErrors n).replies = s.replies ∧ (s.capErrors n).stream = s.stream ∧ (s.capErrors n).line = s.line ∧
    (s.capErrors n).partSeq = s.partSeq ∧ (s.capErrors n).params = s.params ∧ (s.capErrors n).restart = s.restart ∧
    (s.capErrors n).events = s.events ∧ (s.capErrors n).notice = s.notice := by
  unfold State.capErrors
  refine ⟨?_, ?_, ?_, ?_, ?_, ?_, ?_, ?_, ?_, ?_, ?_, ?_, ?_, ?_, ?_, ?_, ?_, ?_, ?_, ?_, ?_, ?_⟩ <;> simp [foldl_keeps]

@[simp] theorem State.applyParam_frame (s : State) (i : ParamId) (v : Nat) :
    (s.applyParam i v).pending = s.pending ∧ (s.applyParam i v).now = s.now ∧ (s.applyParam i v).freeUses = s.freeUses ∧
    (s.applyParam i v).media = s.media ∧ (s.applyParam i v).inReset = s.inReset ∧ (s.applyParam i v).cutOff = s.cutOff ∧
    (s.applyParam i v).waitList = s.waitList ∧ (s.applyParam i v).activity = s.activity ∧
    (s.applyParam i v).choiceHold = s.choiceHold ∧ (s.applyParam i v).chan = s.chan ∧
    (s.applyParam i v).stopRequest = s.stopRequest ∧ (s.applyParam i v).free = s.free ∧ (s.applyParam i v).parser = s.parser ∧
    (s.applyParam i v).inbound = s.inbound ∧ (s.applyParam i v).replies = s.replies ∧ (s.applyParam i v).stream = s.stream ∧
    (s.applyParam i v).line = s.line ∧ (s.applyParam i v).partSeq = s.partSeq ∧ (s.applyParam i v).restart = s.restart ∧
    (s.applyParam i v).events = s.events ∧ (s.applyParam i v).notice = s.notice := by
  unfold State.applyParam
  try dsimp only
  repeat' split
  all_goals simp

@[simp] theorem State.admitRequest_frame (s : State) (m : SubmitRequest) :
    (s.admitRequest m).pending = s.pending ∧ (s.admitRequest m).now = s.now ∧ (s.admitRequest m).freeUses = s.freeUses ∧
    (s.admitRequest m).media = s.media ∧ (s.admitRequest m).inReset = s.inReset ∧ (s.admitRequest m).cutOff = s.cutOff ∧
    (s.admitRequest m).activity = s.activity ∧ (s.admitRequest m).choiceHold = s.choiceHold ∧ (s.admitRequest m).chan = s.chan ∧
    (s.admitRequest m).stopRequest = s.stopRequest ∧ (s.admitRequest m).free = s.free ∧ (s.admitRequest m).parser = s.parser ∧
    (s.admitRequest m).inbound = s.inbound ∧ (s.admitRequest m).replies = s.replies ∧ (s.admitRequest m).stream = s.stream ∧
    (s.admitRequest m).line = s.line ∧ (s.admitRequest m).partSeq = s.partSeq ∧ (s.admitRequest m).params = s.params ∧
    (s.admitRequest m).restart = s.restart ∧ (s.admitRequest m).notice = s.notice := by
  unfold State.admitRequest
  try dsimp only
  simp

@[simp] theorem State.cancel_frame (s : State) (r : Request) :
    (s.cancel r).pending = s.pending ∧ (s.cancel r).now = s.now ∧ (s.cancel r).freeUses = s.freeUses ∧
    (s.cancel r).media = s.media ∧ (s.cancel r).inReset = s.inReset ∧ (s.cancel r).cutOff = s.cutOff ∧
    (s.cancel r).waitList = s.waitList ∧ (s.cancel r).choiceHold = s.choiceHold ∧ (s.cancel r).stopRequest = s.stopRequest ∧
    (s.cancel r).parser = s.parser ∧ (s.cancel r).inbound = s.inbound ∧ (s.cancel r).replies = s.replies ∧
    (s.cancel r).line = s.line ∧ (s.cancel r).partSeq = s.partSeq ∧ (s.cancel r).params = s.params ∧
    (s.cancel r).restart = s.restart ∧ (s.cancel r).events = s.events ∧ (s.cancel r).notice = s.notice := by
  unfold State.cancel
  try dsimp only
  repeat' split
  all_goals simp

@[simp] theorem State.configure_frame (s : State) (p : Port) (g : Geometry) :
    (s.configure p g).pending = s.pending ∧ (s.configure p g).now = s.now ∧ (s.configure p g).freeUses = s.freeUses ∧
    (s.configure p g).media = s.media ∧ (s.configure p g).inReset = s.inReset ∧ (s.configure p g).cutOff = s.cutOff ∧
    (s.configure p g).activity = s.activity ∧ (s.configure p g).choiceHold = s.choiceHold ∧ (s.configure p g).chan = s.chan ∧
    (s.configure p g).stopRequest = s.stopRequest ∧ (s.configure p g).free = s.free ∧ (s.configure p g).parser = s.parser ∧
    (s.configure p g).inbound = s.inbound ∧ (s.configure p g).replies = s.replies ∧ (s.configure p g).stream = s.stream ∧
    (s.configure p g).line = s.line ∧ (s.configure p g).partSeq = s.partSeq ∧ (s.configure p g).params = s.params ∧
    (s.configure p g).restart = s.restart ∧ (s.configure p g).notice = s.notice := by
  unfold State.configure
  try dsimp only
  repeat' split
  all_goals simp

@[simp] theorem State.deconfigure_frame (s : State) (p : Port) :
    (s.deconfigure p).pending = s.pending ∧ (s.deconfigure p).now = s.now ∧ (s.deconfigure p).freeUses = s.freeUses ∧
    (s.deconfigure p).media = s.media ∧ (s.deconfigure p).inReset = s.inReset ∧ (s.deconfigure p).cutOff = s.cutOff ∧
    (s.deconfigure p).choiceHold = s.choiceHold ∧ (s.deconfigure p).chan = s.chan ∧
    (s.deconfigure p).stopRequest = s.stopRequest ∧ (s.deconfigure p).free = s.free ∧ (s.deconfigure p).parser = s.parser ∧
    (s.deconfigure p).inbound = s.inbound ∧ (s.deconfigure p).replies = s.replies ∧ (s.deconfigure p).stream = s.stream ∧
    (s.deconfigure p).line = s.line ∧ (s.deconfigure p).partSeq = s.partSeq ∧ (s.deconfigure p).params = s.params ∧
    (s.deconfigure p).restart = s.restart ∧ (s.deconfigure p).notice = s.notice := by
  unfold State.deconfigure
  try dsimp only
  simp

@[simp] theorem State.clearFault_frame (s : State) (p : Port) :
    (s.clearFault p).pending = s.pending ∧ (s.clearFault p).now = s.now ∧ (s.clearFault p).freeUses = s.freeUses ∧
    (s.clearFault p).media = s.media ∧ (s.clearFault p).inReset = s.inReset ∧ (s.clearFault p).cutOff = s.cutOff ∧
    (s.clearFault p).activity = s.activity ∧ (s.clearFault p).choiceHold = s.choiceHold ∧ (s.clearFault p).chan = s.chan ∧
    (s.clearFault p).stopRequest = s.stopRequest ∧ (s.clearFault p).free = s.free ∧ (s.clearFault p).parser = s.parser ∧
    (s.clearFault p).inbound = s.inbound ∧ (s.clearFault p).replies = s.replies ∧ (s.clearFault p).stream = s.stream ∧
    (s.clearFault p).line = s.line ∧ (s.clearFault p).partSeq = s.partSeq ∧ (s.clearFault p).params = s.params ∧
    (s.clearFault p).restart = s.restart ∧ (s.clearFault p).notice = s.notice := by
  unfold State.clearFault
  try dsimp only
  simp

@[simp] theorem State.stopNow_frame (s : State) :
    (s.stopNow).pending = s.pending ∧ (s.stopNow).now = s.now ∧ (s.stopNow).freeUses = s.freeUses ∧
    (s.stopNow).media = s.media ∧ (s.stopNow).inReset = s.inReset ∧ (s.stopNow).cutOff = s.cutOff ∧
    (s.stopNow).spindles = s.spindles ∧ (s.stopNow).waitList = s.waitList ∧ (s.stopNow).activity = s.activity ∧
    (s.stopNow).choiceHold = s.choiceHold ∧ (s.stopNow).stopRequest = s.stopRequest ∧ (s.stopNow).parser = s.parser ∧
    (s.stopNow).inbound = s.inbound ∧ (s.stopNow).replies = s.replies ∧ (s.stopNow).stream = s.stream ∧
    (s.stopNow).line = s.line ∧ (s.stopNow).partSeq = s.partSeq ∧ (s.stopNow).params = s.params ∧
    (s.stopNow).restart = s.restart ∧ (s.stopNow).events = s.events ∧ (s.stopNow).notice = s.notice := by
  unfold State.stopNow
  try dsimp only
  repeat' split
  all_goals simp

@[simp] theorem State.takeRestart_frame (s : State) (q : Byte) :
    (s.takeRestart q).pending = s.pending ∧ (s.takeRestart q).now = s.now ∧ (s.takeRestart q).freeUses = s.freeUses ∧
    (s.takeRestart q).media = s.media ∧ (s.takeRestart q).inReset = s.inReset ∧ (s.takeRestart q).cutOff = s.cutOff ∧
    (s.takeRestart q).spindles = s.spindles ∧ (s.takeRestart q).waitList = s.waitList ∧
    (s.takeRestart q).activity = s.activity ∧ (s.takeRestart q).parser = s.parser ∧ (s.takeRestart q).inbound = s.inbound ∧
    (s.takeRestart q).replies = s.replies ∧ (s.takeRestart q).stream = s.stream ∧ (s.takeRestart q).line = s.line ∧
    (s.takeRestart q).partSeq = s.partSeq ∧ (s.takeRestart q).params = s.params ∧ (s.takeRestart q).events = s.events ∧
    (s.takeRestart q).notice = s.notice := by
  unfold State.takeRestart
  try dsimp only
  simp

@[simp] theorem State.beginFrame_frame (s : State) :
    (s.beginFrame).pending = s.pending ∧ (s.beginFrame).now = s.now ∧ (s.beginFrame).freeUses = s.freeUses ∧
    (s.beginFrame).media = s.media ∧ (s.beginFrame).inReset = s.inReset ∧ (s.beginFrame).cutOff = s.cutOff ∧
    (s.beginFrame).spindles = s.spindles ∧ (s.beginFrame).waitList = s.waitList ∧ (s.beginFrame).activity = s.activity ∧
    (s.beginFrame).table = s.table ∧ (s.beginFrame).choiceHold = s.choiceHold ∧ (s.beginFrame).chan = s.chan ∧
    (s.beginFrame).stopRequest = s.stopRequest ∧ (s.beginFrame).free = s.free ∧ (s.beginFrame).inbound = s.inbound ∧
    (s.beginFrame).replies = s.replies ∧ (s.beginFrame).stream = s.stream ∧ (s.beginFrame).line = s.line ∧
    (s.beginFrame).partSeq = s.partSeq ∧ (s.beginFrame).params = s.params ∧ (s.beginFrame).restart = s.restart ∧
    (s.beginFrame).events = s.events ∧ (s.beginFrame).notice = s.notice := by
  unfold State.beginFrame
  try dsimp only
  repeat' split
  all_goals simp

@[simp] theorem State.closeFrame_frame (s : State) (r : Bool) (f : Frame) (c : Half) :
    (s.closeFrame r f c).pending = s.pending ∧ (s.closeFrame r f c).now = s.now ∧ (s.closeFrame r f c).freeUses = s.freeUses ∧
    (s.closeFrame r f c).media = s.media ∧ (s.closeFrame r f c).inReset = s.inReset ∧ (s.closeFrame r f c).cutOff = s.cutOff ∧
    (s.closeFrame r f c).spindles = s.spindles ∧ (s.closeFrame r f c).waitList = s.waitList ∧
    (s.closeFrame r f c).activity = s.activity ∧ (s.closeFrame r f c).table = s.table ∧
    (s.closeFrame r f c).choiceHold = s.choiceHold ∧ (s.closeFrame r f c).chan = s.chan ∧
    (s.closeFrame r f c).stopRequest = s.stopRequest ∧ (s.closeFrame r f c).free = s.free ∧
    (s.closeFrame r f c).replies = s.replies ∧ (s.closeFrame r f c).stream = s.stream ∧ (s.closeFrame r f c).line = s.line ∧
    (s.closeFrame r f c).partSeq = s.partSeq ∧ (s.closeFrame r f c).params = s.params ∧
    (s.closeFrame r f c).restart = s.restart ∧ (s.closeFrame r f c).events = s.events := by
  unfold State.closeFrame
  try dsimp only
  repeat' (first | simp; done | split)

@[simp] theorem State.endFrame_frame (s : State) (k q : Byte) (b : List Byte) (c : Half) :
    (s.endFrame k q b c).pending = s.pending ∧ (s.endFrame k q b c).now = s.now ∧ (s.endFrame k q b c).freeUses = s.freeUses ∧
    (s.endFrame k q b c).media = s.media ∧ (s.endFrame k q b c).inReset = s.inReset ∧ (s.endFrame k q b c).cutOff = s.cutOff ∧
    (s.endFrame k q b c).spindles = s.spindles ∧ (s.endFrame k q b c).waitList = s.waitList ∧
    (s.endFrame k q b c).activity = s.activity ∧ (s.endFrame k q b c).table = s.table ∧
    (s.endFrame k q b c).choiceHold = s.choiceHold ∧ (s.endFrame k q b c).chan = s.chan ∧
    (s.endFrame k q b c).stopRequest = s.stopRequest ∧ (s.endFrame k q b c).free = s.free ∧
    (s.endFrame k q b c).replies = s.replies ∧ (s.endFrame k q b c).stream = s.stream ∧ (s.endFrame k q b c).line = s.line ∧
    (s.endFrame k q b c).partSeq = s.partSeq ∧ (s.endFrame k q b c).params = s.params ∧
    (s.endFrame k q b c).restart = s.restart ∧ (s.endFrame k q b c).events = s.events := by
  unfold State.endFrame
  try dsimp only
  repeat' (first | simp; done | split)

@[simp] theorem State.breakLength_frame (s : State) (n : Half) :
    (s.breakLength n).pending = s.pending ∧ (s.breakLength n).now = s.now ∧ (s.breakLength n).freeUses = s.freeUses ∧
    (s.breakLength n).media = s.media ∧ (s.breakLength n).inReset = s.inReset ∧ (s.breakLength n).cutOff = s.cutOff ∧
    (s.breakLength n).spindles = s.spindles ∧ (s.breakLength n).waitList = s.waitList ∧
    (s.breakLength n).activity = s.activity ∧ (s.breakLength n).table = s.table ∧ (s.breakLength n).choiceHold = s.choiceHold ∧
    (s.breakLength n).chan = s.chan ∧ (s.breakLength n).stopRequest = s.stopRequest ∧ (s.breakLength n).free = s.free ∧
    (s.breakLength n).inbound = s.inbound ∧ (s.breakLength n).replies = s.replies ∧ (s.breakLength n).stream = s.stream ∧
    (s.breakLength n).line = s.line ∧ (s.breakLength n).partSeq = s.partSeq ∧ (s.breakLength n).params = s.params ∧
    (s.breakLength n).restart = s.restart ∧ (s.breakLength n).events = s.events := by
  unfold State.breakLength
  try dsimp only
  repeat' split
  all_goals simp

@[simp] theorem State.breakGap_frame (s : State) :
    (s.breakGap).pending = s.pending ∧ (s.breakGap).freeUses = s.freeUses ∧ (s.breakGap).media = s.media ∧
    (s.breakGap).inReset = s.inReset ∧ (s.breakGap).cutOff = s.cutOff ∧ (s.breakGap).spindles = s.spindles ∧
    (s.breakGap).waitList = s.waitList ∧ (s.breakGap).activity = s.activity ∧ (s.breakGap).table = s.table ∧
    (s.breakGap).choiceHold = s.choiceHold ∧ (s.breakGap).chan = s.chan ∧ (s.breakGap).stopRequest = s.stopRequest ∧
    (s.breakGap).free = s.free ∧ (s.breakGap).inbound = s.inbound ∧ (s.breakGap).replies = s.replies ∧
    (s.breakGap).stream = s.stream ∧ (s.breakGap).line = s.line ∧ (s.breakGap).partSeq = s.partSeq ∧
    (s.breakGap).params = s.params ∧ (s.breakGap).restart = s.restart ∧ (s.breakGap).events = s.events := by
  unfold State.breakGap
  try dsimp only
  repeat' split
  all_goals simp

@[simp] theorem State.endTransmission_frame (s : State) :
    (s.endTransmission).pending = s.pending ∧ (s.endTransmission).now = s.now ∧ (s.endTransmission).freeUses = s.freeUses ∧
    (s.endTransmission).media = s.media ∧ (s.endTransmission).inReset = s.inReset ∧ (s.endTransmission).cutOff = s.cutOff ∧
    (s.endTransmission).spindles = s.spindles ∧ (s.endTransmission).waitList = s.waitList ∧
    (s.endTransmission).activity = s.activity ∧ (s.endTransmission).choiceHold = s.choiceHold ∧
    (s.endTransmission).chan = s.chan ∧ (s.endTransmission).stopRequest = s.stopRequest ∧
    (s.endTransmission).parser = s.parser ∧ (s.endTransmission).inbound = s.inbound ∧ (s.endTransmission).replies = s.replies ∧
    (s.endTransmission).stream = s.stream ∧ (s.endTransmission).partSeq = s.partSeq ∧ (s.endTransmission).params = s.params ∧
    (s.endTransmission).restart = s.restart ∧ (s.endTransmission).events = s.events ∧
    (s.endTransmission).notice = s.notice := by
  unfold State.endTransmission
  try dsimp only
  repeat' split
  all_goals simp

@[simp] theorem State.presFall_frame (s : State) (p : Port) :
    (s.presFall p).pending = s.pending ∧ (s.presFall p).now = s.now ∧ (s.presFall p).inReset = s.inReset ∧
    (s.presFall p).cutOff = s.cutOff ∧ (s.presFall p).choiceHold = s.choiceHold ∧ (s.presFall p).stopRequest = s.stopRequest ∧
    (s.presFall p).parser = s.parser ∧ (s.presFall p).inbound = s.inbound ∧ (s.presFall p).replies = s.replies ∧
    (s.presFall p).line = s.line ∧ (s.presFall p).partSeq = s.partSeq ∧ (s.presFall p).params = s.params ∧
    (s.presFall p).restart = s.restart ∧ (s.presFall p).notice = s.notice := by
  unfold State.presFall
  try dsimp only
  repeat' split
  all_goals simp

@[simp] theorem State.presRise_frame (s : State) (p : Port) :
    (s.presRise p).pending = s.pending ∧ (s.presRise p).now = s.now ∧ (s.presRise p).freeUses = s.freeUses ∧
    (s.presRise p).media = s.media ∧ (s.presRise p).inReset = s.inReset ∧ (s.presRise p).cutOff = s.cutOff ∧
    (s.presRise p).activity = s.activity ∧ (s.presRise p).choiceHold = s.choiceHold ∧ (s.presRise p).chan = s.chan ∧
    (s.presRise p).stopRequest = s.stopRequest ∧ (s.presRise p).free = s.free ∧ (s.presRise p).parser = s.parser ∧
    (s.presRise p).inbound = s.inbound ∧ (s.presRise p).replies = s.replies ∧ (s.presRise p).stream = s.stream ∧
    (s.presRise p).line = s.line ∧ (s.presRise p).partSeq = s.partSeq ∧ (s.presRise p).params = s.params ∧
    (s.presRise p).restart = s.restart ∧ (s.presRise p).notice = s.notice := by
  unfold State.presRise
  try dsimp only
  repeat' split
  all_goals simp

@[simp] theorem State.spunChange_frame (s : State) (p : Port) (b : Bool) :
    (s.spunChange p b).pending = s.pending ∧ (s.spunChange p b).now = s.now ∧ (s.spunChange p b).inReset = s.inReset ∧
    (s.spunChange p b).cutOff = s.cutOff ∧ (s.spunChange p b).choiceHold = s.choiceHold ∧
    (s.spunChange p b).stopRequest = s.stopRequest ∧ (s.spunChange p b).parser = s.parser ∧
    (s.spunChange p b).inbound = s.inbound ∧ (s.spunChange p b).replies = s.replies ∧ (s.spunChange p b).line = s.line ∧
    (s.spunChange p b).partSeq = s.partSeq ∧ (s.spunChange p b).params = s.params ∧ (s.spunChange p b).restart = s.restart ∧
    (s.spunChange p b).notice = s.notice := by
  unfold State.spunChange
  try dsimp only
  repeat' split
  all_goals simp

@[simp] theorem State.unitFault_frame (s : State) (p : Port) :
    (s.unitFault p).pending = s.pending ∧ (s.unitFault p).now = s.now ∧ (s.unitFault p).inReset = s.inReset ∧
    (s.unitFault p).cutOff = s.cutOff ∧ (s.unitFault p).choiceHold = s.choiceHold ∧
    (s.unitFault p).stopRequest = s.stopRequest ∧ (s.unitFault p).parser = s.parser ∧ (s.unitFault p).inbound = s.inbound ∧
    (s.unitFault p).replies = s.replies ∧ (s.unitFault p).line = s.line ∧ (s.unitFault p).partSeq = s.partSeq ∧
    (s.unitFault p).params = s.params ∧ (s.unitFault p).restart = s.restart ∧ (s.unitFault p).notice = s.notice := by
  unfold State.unitFault
  try dsimp only
  repeat' split
  all_goals simp

@[simp] theorem State.postConfigured_frame (s : State) (p : Port) (k : EventSet) :
    (s.postConfigured p k).pending = s.pending ∧ (s.postConfigured p k).now = s.now ∧
    (s.postConfigured p k).freeUses = s.freeUses ∧ (s.postConfigured p k).media = s.media ∧
    (s.postConfigured p k).inReset = s.inReset ∧ (s.postConfigured p k).cutOff = s.cutOff ∧
    (s.postConfigured p k).spindles = s.spindles ∧ (s.postConfigured p k).waitList = s.waitList ∧
    (s.postConfigured p k).activity = s.activity ∧ (s.postConfigured p k).table = s.table ∧
    (s.postConfigured p k).choiceHold = s.choiceHold ∧ (s.postConfigured p k).chan = s.chan ∧
    (s.postConfigured p k).stopRequest = s.stopRequest ∧ (s.postConfigured p k).free = s.free ∧
    (s.postConfigured p k).parser = s.parser ∧ (s.postConfigured p k).inbound = s.inbound ∧
    (s.postConfigured p k).replies = s.replies ∧ (s.postConfigured p k).stream = s.stream ∧
    (s.postConfigured p k).line = s.line ∧ (s.postConfigured p k).partSeq = s.partSeq ∧
    (s.postConfigured p k).params = s.params ∧ (s.postConfigured p k).restart = s.restart ∧
    (s.postConfigured p k).notice = s.notice := by
  unfold State.postConfigured
  try dsimp only
  repeat' split
  all_goals simp

@[simp] theorem State.reportThreshold_frame (s : State) (p : Port) :
    (s.reportThreshold p).pending = s.pending ∧ (s.reportThreshold p).now = s.now ∧ (s.reportThreshold p).inReset = s.inReset ∧
    (s.reportThreshold p).cutOff = s.cutOff ∧ (s.reportThreshold p).choiceHold = s.choiceHold ∧
    (s.reportThreshold p).stopRequest = s.stopRequest ∧ (s.reportThreshold p).parser = s.parser ∧
    (s.reportThreshold p).inbound = s.inbound ∧ (s.reportThreshold p).replies = s.replies ∧
    (s.reportThreshold p).line = s.line ∧ (s.reportThreshold p).partSeq = s.partSeq ∧ (s.reportThreshold p).params = s.params ∧
    (s.reportThreshold p).restart = s.restart ∧ (s.reportThreshold p).notice = s.notice := by
  unfold State.reportThreshold
  try dsimp only
  repeat' split
  all_goals simp

@[simp] theorem State.reportTracked_frame (s : State) (p : Port) :
    (s.reportTracked p).pending = s.pending ∧ (s.reportTracked p).now = s.now ∧ (s.reportTracked p).freeUses = s.freeUses ∧
    (s.reportTracked p).media = s.media ∧ (s.reportTracked p).inReset = s.inReset ∧ (s.reportTracked p).cutOff = s.cutOff ∧
    (s.reportTracked p).spindles = s.spindles ∧ (s.reportTracked p).waitList = s.waitList ∧
    (s.reportTracked p).activity = s.activity ∧ (s.reportTracked p).choiceHold = s.choiceHold ∧
    (s.reportTracked p).chan = s.chan ∧ (s.reportTracked p).stopRequest = s.stopRequest ∧ (s.reportTracked p).free = s.free ∧
    (s.reportTracked p).parser = s.parser ∧ (s.reportTracked p).inbound = s.inbound ∧ (s.reportTracked p).replies = s.replies ∧
    (s.reportTracked p).stream = s.stream ∧ (s.reportTracked p).line = s.line ∧ (s.reportTracked p).partSeq = s.partSeq ∧
    (s.reportTracked p).params = s.params ∧ (s.reportTracked p).restart = s.restart ∧ (s.reportTracked p).events = s.events ∧
    (s.reportTracked p).notice = s.notice := by
  unfold State.reportTracked
  try dsimp only
  repeat' split
  all_goals simp

@[simp] theorem State.indexLost_frame (s : State) (p : Port) :
    (s.indexLost p).pending = s.pending ∧ (s.indexLost p).now = s.now ∧ (s.indexLost p).inReset = s.inReset ∧
    (s.indexLost p).cutOff = s.cutOff ∧ (s.indexLost p).choiceHold = s.choiceHold ∧
    (s.indexLost p).stopRequest = s.stopRequest ∧ (s.indexLost p).parser = s.parser ∧ (s.indexLost p).inbound = s.inbound ∧
    (s.indexLost p).replies = s.replies ∧ (s.indexLost p).line = s.line ∧ (s.indexLost p).partSeq = s.partSeq ∧
    (s.indexLost p).params = s.params ∧ (s.indexLost p).restart = s.restart ∧ (s.indexLost p).notice = s.notice := by
  unfold State.indexLost
  try dsimp only
  simp

@[simp] theorem State.shortRevolution_frame (s : State) (p : Port) :
    (s.shortRevolution p).pending = s.pending ∧ (s.shortRevolution p).now = s.now ∧ (s.shortRevolution p).inReset = s.inReset ∧
    (s.shortRevolution p).cutOff = s.cutOff ∧ (s.shortRevolution p).choiceHold = s.choiceHold ∧
    (s.shortRevolution p).stopRequest = s.stopRequest ∧ (s.shortRevolution p).parser = s.parser ∧
    (s.shortRevolution p).inbound = s.inbound ∧ (s.shortRevolution p).replies = s.replies ∧
    (s.shortRevolution p).line = s.line ∧ (s.shortRevolution p).partSeq = s.partSeq ∧ (s.shortRevolution p).params = s.params ∧
    (s.shortRevolution p).restart = s.restart ∧ (s.shortRevolution p).notice = s.notice := by
  unfold State.shortRevolution
  try dsimp only
  simp

@[simp] theorem State.trackSector_frame (s : State) (p : Port) :
    (s.trackSector p).pending = s.pending ∧ (s.trackSector p).now = s.now ∧ (s.trackSector p).inReset = s.inReset ∧
    (s.trackSector p).cutOff = s.cutOff ∧ (s.trackSector p).choiceHold = s.choiceHold ∧
    (s.trackSector p).stopRequest = s.stopRequest ∧ (s.trackSector p).parser = s.parser ∧
    (s.trackSector p).inbound = s.inbound ∧ (s.trackSector p).replies = s.replies ∧ (s.trackSector p).line = s.line ∧
    (s.trackSector p).partSeq = s.partSeq ∧ (s.trackSector p).params = s.params ∧ (s.trackSector p).restart = s.restart ∧
    (s.trackSector p).notice = s.notice := by
  unfold State.trackSector
  try dsimp only
  repeat' (first | simp; done | split)

@[simp] theorem State.enterReady_frame (s : State) (p : Port) :
    (s.enterReady p).pending = s.pending ∧ (s.enterReady p).now = s.now ∧ (s.enterReady p).freeUses = s.freeUses ∧
    (s.enterReady p).media = s.media ∧ (s.enterReady p).inReset = s.inReset ∧ (s.enterReady p).cutOff = s.cutOff ∧
    (s.enterReady p).choiceHold = s.choiceHold ∧ (s.enterReady p).chan = s.chan ∧ (s.enterReady p).stopRequest = s.stopRequest ∧
    (s.enterReady p).free = s.free ∧ (s.enterReady p).parser = s.parser ∧ (s.enterReady p).inbound = s.inbound ∧
    (s.enterReady p).replies = s.replies ∧ (s.enterReady p).stream = s.stream ∧ (s.enterReady p).line = s.line ∧
    (s.enterReady p).partSeq = s.partSeq ∧ (s.enterReady p).params = s.params ∧ (s.enterReady p).restart = s.restart ∧
    (s.enterReady p).notice = s.notice := by
  unfold State.enterReady
  try dsimp only
  simp

@[simp] theorem State.trackIndex_frame (s : State) (p : Port) :
    (s.trackIndex p).pending = s.pending ∧ (s.trackIndex p).now = s.now ∧ (s.trackIndex p).inReset = s.inReset ∧
    (s.trackIndex p).cutOff = s.cutOff ∧ (s.trackIndex p).choiceHold = s.choiceHold ∧
    (s.trackIndex p).stopRequest = s.stopRequest ∧ (s.trackIndex p).parser = s.parser ∧ (s.trackIndex p).inbound = s.inbound ∧
    (s.trackIndex p).replies = s.replies ∧ (s.trackIndex p).line = s.line ∧ (s.trackIndex p).partSeq = s.partSeq ∧
    (s.trackIndex p).params = s.params ∧ (s.trackIndex p).restart = s.restart ∧ (s.trackIndex p).notice = s.notice := by
  unfold State.trackIndex
  try dsimp only
  repeat' split
  all_goals simp

@[simp] theorem State.spindleIndex_frame (s : State) (p : Port) :
    (s.spindleIndex p).pending = s.pending ∧ (s.spindleIndex p).now = s.now ∧ (s.spindleIndex p).inReset = s.inReset ∧
    (s.spindleIndex p).cutOff = s.cutOff ∧ (s.spindleIndex p).choiceHold = s.choiceHold ∧
    (s.spindleIndex p).stopRequest = s.stopRequest ∧ (s.spindleIndex p).parser = s.parser ∧
    (s.spindleIndex p).inbound = s.inbound ∧ (s.spindleIndex p).replies = s.replies ∧ (s.spindleIndex p).line = s.line ∧
    (s.spindleIndex p).partSeq = s.partSeq ∧ (s.spindleIndex p).params = s.params ∧ (s.spindleIndex p).restart = s.restart ∧
    (s.spindleIndex p).notice = s.notice := by
  unfold State.spindleIndex
  try dsimp only
  repeat' split
  all_goals simp

@[simp] theorem State.countedMark_frame (s : State) (e : Engagement) (b : Bool) :
    (s.countedMark e b).pending = s.pending ∧ (s.countedMark e b).now = s.now ∧ (s.countedMark e b).freeUses = s.freeUses ∧
    (s.countedMark e b).media = s.media ∧ (s.countedMark e b).inReset = s.inReset ∧ (s.countedMark e b).cutOff = s.cutOff ∧
    (s.countedMark e b).waitList = s.waitList ∧ (s.countedMark e b).choiceHold = s.choiceHold ∧
    (s.countedMark e b).stopRequest = s.stopRequest ∧ (s.countedMark e b).parser = s.parser ∧
    (s.countedMark e b).inbound = s.inbound ∧ (s.countedMark e b).replies = s.replies ∧ (s.countedMark e b).line = s.line ∧
    (s.countedMark e b).partSeq = s.partSeq ∧ (s.countedMark e b).params = s.params ∧ (s.countedMark e b).restart = s.restart ∧
    (s.countedMark e b).notice = s.notice := by
  unfold State.countedMark
  try dsimp only
  repeat' split
  all_goals simp

@[simp] theorem State.formatIndex_frame (s : State) (e : Engagement) :
    (s.formatIndex e).pending = s.pending ∧ (s.formatIndex e).now = s.now ∧ (s.formatIndex e).freeUses = s.freeUses ∧
    (s.formatIndex e).media = s.media ∧ (s.formatIndex e).inReset = s.inReset ∧ (s.formatIndex e).cutOff = s.cutOff ∧
    (s.formatIndex e).waitList = s.waitList ∧ (s.formatIndex e).choiceHold = s.choiceHold ∧
    (s.formatIndex e).stopRequest = s.stopRequest ∧ (s.formatIndex e).parser = s.parser ∧
    (s.formatIndex e).inbound = s.inbound ∧ (s.formatIndex e).replies = s.replies ∧ (s.formatIndex e).line = s.line ∧
    (s.formatIndex e).partSeq = s.partSeq ∧ (s.formatIndex e).params = s.params ∧ (s.formatIndex e).restart = s.restart ∧
    (s.formatIndex e).events = s.events ∧ (s.formatIndex e).notice = s.notice := by
  unfold State.formatIndex
  try dsimp only
  repeat' split
  all_goals simp

@[simp] theorem State.channelMark_frame (s : State) (p : Port) (b : Bool) :
    (s.channelMark p b).pending = s.pending ∧ (s.channelMark p b).now = s.now ∧ (s.channelMark p b).freeUses = s.freeUses ∧
    (s.channelMark p b).inReset = s.inReset ∧ (s.channelMark p b).cutOff = s.cutOff ∧
    (s.channelMark p b).waitList = s.waitList ∧ (s.channelMark p b).choiceHold = s.choiceHold ∧
    (s.channelMark p b).stopRequest = s.stopRequest ∧ (s.channelMark p b).parser = s.parser ∧
    (s.channelMark p b).inbound = s.inbound ∧ (s.channelMark p b).replies = s.replies ∧ (s.channelMark p b).line = s.line ∧
    (s.channelMark p b).partSeq = s.partSeq ∧ (s.channelMark p b).params = s.params ∧ (s.channelMark p b).restart = s.restart ∧
    (s.channelMark p b).notice = s.notice := by
  unfold State.channelMark
  try dsimp only
  repeat' split
  all_goals simp

@[simp] theorem State.passOver_frame (s : State) (e : Engagement) :
    (s.passOver e).pending = s.pending ∧ (s.passOver e).now = s.now ∧ (s.passOver e).freeUses = s.freeUses ∧
    (s.passOver e).media = s.media ∧ (s.passOver e).inReset = s.inReset ∧ (s.passOver e).cutOff = s.cutOff ∧
    (s.passOver e).waitList = s.waitList ∧ (s.passOver e).choiceHold = s.choiceHold ∧
    (s.passOver e).stopRequest = s.stopRequest ∧ (s.passOver e).parser = s.parser ∧ (s.passOver e).inbound = s.inbound ∧
    (s.passOver e).replies = s.replies ∧ (s.passOver e).line = s.line ∧ (s.passOver e).partSeq = s.partSeq ∧
    (s.passOver e).params = s.params ∧ (s.passOver e).restart = s.restart ∧ (s.passOver e).notice = s.notice := by
  unfold State.passOver
  try dsimp only
  repeat' split
  all_goals simp

@[simp] theorem State.beginRead_frame (s : State) (e : Engagement) (w : Word) (n : Nat) :
    (s.beginRead e w n).pending = s.pending ∧ (s.beginRead e w n).now = s.now ∧ (s.beginRead e w n).freeUses = s.freeUses ∧
    (s.beginRead e w n).media = s.media ∧ (s.beginRead e w n).inReset = s.inReset ∧ (s.beginRead e w n).cutOff = s.cutOff ∧
    (s.beginRead e w n).waitList = s.waitList ∧ (s.beginRead e w n).choiceHold = s.choiceHold ∧
    (s.beginRead e w n).stopRequest = s.stopRequest ∧ (s.beginRead e w n).parser = s.parser ∧
    (s.beginRead e w n).inbound = s.inbound ∧ (s.beginRead e w n).replies = s.replies ∧ (s.beginRead e w n).line = s.line ∧
    (s.beginRead e w n).partSeq = s.partSeq ∧ (s.beginRead e w n).params = s.params ∧ (s.beginRead e w n).restart = s.restart ∧
    (s.beginRead e w n).events = s.events ∧ (s.beginRead e w n).notice = s.notice := by
  unfold State.beginRead
  try dsimp only
  repeat' split
  all_goals simp

@[simp] theorem State.beginWrite_frame (s : State) (e : Engagement) (r : Request) (w : Word) (n : Nat) :
    (s.beginWrite e r w n).pending = s.pending ∧ (s.beginWrite e r w n).now = s.now ∧
    (s.beginWrite e r w n).freeUses = s.freeUses ∧ (s.beginWrite e r w n).media = s.media ∧
    (s.beginWrite e r w n).inReset = s.inReset ∧ (s.beginWrite e r w n).cutOff = s.cutOff ∧
    (s.beginWrite e r w n).waitList = s.waitList ∧ (s.beginWrite e r w n).choiceHold = s.choiceHold ∧
    (s.beginWrite e r w n).stopRequest = s.stopRequest ∧ (s.beginWrite e r w n).parser = s.parser ∧
    (s.beginWrite e r w n).inbound = s.inbound ∧ (s.beginWrite e r w n).replies = s.replies ∧
    (s.beginWrite e r w n).line = s.line ∧ (s.beginWrite e r w n).partSeq = s.partSeq ∧
    (s.beginWrite e r w n).params = s.params ∧ (s.beginWrite e r w n).restart = s.restart ∧
    (s.beginWrite e r w n).notice = s.notice := by
  unfold State.beginWrite
  try dsimp only
  repeat' split
  all_goals simp

@[simp] theorem State.beginData_frame (s : State) (e : Engagement) (w : Word) (n : Nat) :
    (s.beginData e w n).pending = s.pending ∧ (s.beginData e w n).now = s.now ∧ (s.beginData e w n).freeUses = s.freeUses ∧
    (s.beginData e w n).media = s.media ∧ (s.beginData e w n).inReset = s.inReset ∧ (s.beginData e w n).cutOff = s.cutOff ∧
    (s.beginData e w n).waitList = s.waitList ∧ (s.beginData e w n).choiceHold = s.choiceHold ∧
    (s.beginData e w n).stopRequest = s.stopRequest ∧ (s.beginData e w n).parser = s.parser ∧
    (s.beginData e w n).inbound = s.inbound ∧ (s.beginData e w n).replies = s.replies ∧ (s.beginData e w n).line = s.line ∧
    (s.beginData e w n).partSeq = s.partSeq ∧ (s.beginData e w n).params = s.params ∧ (s.beginData e w n).restart = s.restart ∧
    (s.beginData e w n).notice = s.notice := by
  unfold State.beginData
  try dsimp only
  repeat' split
  all_goals simp

@[simp] theorem State.searchHeader_frame (s : State) (e : Engagement) (n : Nat) (h : Option (Word × Word × Word)) :
    (s.searchHeader e n h).pending = s.pending ∧ (s.searchHeader e n h).now = s.now ∧
    (s.searchHeader e n h).freeUses = s.freeUses ∧ (s.searchHeader e n h).media = s.media ∧
    (s.searchHeader e n h).inReset = s.inReset ∧ (s.searchHeader e n h).cutOff = s.cutOff ∧
    (s.searchHeader e n h).waitList = s.waitList ∧ (s.searchHeader e n h).choiceHold = s.choiceHold ∧
    (s.searchHeader e n h).stopRequest = s.stopRequest ∧ (s.searchHeader e n h).parser = s.parser ∧
    (s.searchHeader e n h).inbound = s.inbound ∧ (s.searchHeader e n h).replies = s.replies ∧
    (s.searchHeader e n h).line = s.line ∧ (s.searchHeader e n h).partSeq = s.partSeq ∧
    (s.searchHeader e n h).params = s.params ∧ (s.searchHeader e n h).restart = s.restart ∧
    (s.searchHeader e n h).notice = s.notice := by
  unfold State.searchHeader
  try dsimp only
  repeat' split
  all_goals simp

@[simp] theorem State.judgePass_frame (s : State) (e : Engagement) (n : Nat) (h : Option (Word × Word × Word)) :
    (s.judgePass e n h).pending = s.pending ∧ (s.judgePass e n h).now = s.now ∧ (s.judgePass e n h).freeUses = s.freeUses ∧
    (s.judgePass e n h).media = s.media ∧ (s.judgePass e n h).inReset = s.inReset ∧ (s.judgePass e n h).cutOff = s.cutOff ∧
    (s.judgePass e n h).waitList = s.waitList ∧ (s.judgePass e n h).choiceHold = s.choiceHold ∧
    (s.judgePass e n h).stopRequest = s.stopRequest ∧ (s.judgePass e n h).parser = s.parser ∧
    (s.judgePass e n h).inbound = s.inbound ∧ (s.judgePass e n h).replies = s.replies ∧ (s.judgePass e n h).line = s.line ∧
    (s.judgePass e n h).partSeq = s.partSeq ∧ (s.judgePass e n h).params = s.params ∧ (s.judgePass e n h).restart = s.restart ∧
    (s.judgePass e n h).notice = s.notice := by
  unfold State.judgePass
  try dsimp only
  repeat' split
  all_goals simp

@[simp] theorem State.passHeader_frame (s : State) (e : Engagement) (n : Nat) (h : Option (Word × Word × Word)) :
    (s.passHeader e n h).pending = s.pending ∧ (s.passHeader e n h).now = s.now ∧ (s.passHeader e n h).freeUses = s.freeUses ∧
    (s.passHeader e n h).media = s.media ∧ (s.passHeader e n h).inReset = s.inReset ∧ (s.passHeader e n h).cutOff = s.cutOff ∧
    (s.passHeader e n h).waitList = s.waitList ∧ (s.passHeader e n h).choiceHold = s.choiceHold ∧
    (s.passHeader e n h).stopRequest = s.stopRequest ∧ (s.passHeader e n h).parser = s.parser ∧
    (s.passHeader e n h).inbound = s.inbound ∧ (s.passHeader e n h).replies = s.replies ∧ (s.passHeader e n h).line = s.line ∧
    (s.passHeader e n h).partSeq = s.partSeq ∧ (s.passHeader e n h).params = s.params ∧
    (s.passHeader e n h).restart = s.restart ∧ (s.passHeader e n h).notice = s.notice := by
  unfold State.passHeader
  try dsimp only
  repeat' split
  all_goals simp

@[simp] theorem State.headerRead_frame (s : State) (n : Nat) (x : HeaderRead) :
    (s.headerRead n x).pending = s.pending ∧ (s.headerRead n x).now = s.now ∧ (s.headerRead n x).freeUses = s.freeUses ∧
    (s.headerRead n x).media = s.media ∧ (s.headerRead n x).inReset = s.inReset ∧ (s.headerRead n x).cutOff = s.cutOff ∧
    (s.headerRead n x).waitList = s.waitList ∧ (s.headerRead n x).choiceHold = s.choiceHold ∧
    (s.headerRead n x).stopRequest = s.stopRequest ∧ (s.headerRead n x).parser = s.parser ∧
    (s.headerRead n x).inbound = s.inbound ∧ (s.headerRead n x).replies = s.replies ∧ (s.headerRead n x).line = s.line ∧
    (s.headerRead n x).partSeq = s.partSeq ∧ (s.headerRead n x).params = s.params ∧ (s.headerRead n x).restart = s.restart ∧
    (s.headerRead n x).notice = s.notice := by
  unfold State.headerRead
  try dsimp only
  repeat' split
  all_goals simp

@[simp] theorem State.sectorRead_frame (s : State) (e : Engagement) :
    (s.sectorRead e).pending = s.pending ∧ (s.sectorRead e).now = s.now ∧ (s.sectorRead e).freeUses = s.freeUses ∧
    (s.sectorRead e).media = s.media ∧ (s.sectorRead e).inReset = s.inReset ∧ (s.sectorRead e).cutOff = s.cutOff ∧
    (s.sectorRead e).waitList = s.waitList ∧ (s.sectorRead e).choiceHold = s.choiceHold ∧
    (s.sectorRead e).stopRequest = s.stopRequest ∧ (s.sectorRead e).parser = s.parser ∧ (s.sectorRead e).inbound = s.inbound ∧
    (s.sectorRead e).replies = s.replies ∧ (s.sectorRead e).line = s.line ∧ (s.sectorRead e).partSeq = s.partSeq ∧
    (s.sectorRead e).params = s.params ∧ (s.sectorRead e).restart = s.restart ∧ (s.sectorRead e).notice = s.notice := by
  unfold State.sectorRead
  try dsimp only
  simp

@[simp] theorem State.deliverRead_frame (s : State) (e : Engagement) (d : List Word) (x : Bool) :
    (s.deliverRead e d x).pending = s.pending ∧ (s.deliverRead e d x).now = s.now ∧
    (s.deliverRead e d x).freeUses = s.freeUses ∧ (s.deliverRead e d x).media = s.media ∧
    (s.deliverRead e d x).inReset = s.inReset ∧ (s.deliverRead e d x).cutOff = s.cutOff ∧
    (s.deliverRead e d x).spindles = s.spindles ∧ (s.deliverRead e d x).waitList = s.waitList ∧
    (s.deliverRead e d x).activity = s.activity ∧ (s.deliverRead e d x).table = s.table ∧
    (s.deliverRead e d x).choiceHold = s.choiceHold ∧ (s.deliverRead e d x).chan = s.chan ∧
    (s.deliverRead e d x).stopRequest = s.stopRequest ∧ (s.deliverRead e d x).free = s.free ∧
    (s.deliverRead e d x).parser = s.parser ∧ (s.deliverRead e d x).inbound = s.inbound ∧
    (s.deliverRead e d x).replies = s.replies ∧ (s.deliverRead e d x).line = s.line ∧
    (s.deliverRead e d x).partSeq = s.partSeq ∧ (s.deliverRead e d x).params = s.params ∧
    (s.deliverRead e d x).restart = s.restart ∧ (s.deliverRead e d x).events = s.events ∧
    (s.deliverRead e d x).notice = s.notice := by
  unfold State.deliverRead
  try dsimp only
  repeat' split
  all_goals simp

@[simp] theorem State.retrySector_frame (s : State) (e : Engagement) :
    (s.retrySector e).pending = s.pending ∧ (s.retrySector e).now = s.now ∧ (s.retrySector e).freeUses = s.freeUses ∧
    (s.retrySector e).media = s.media ∧ (s.retrySector e).inReset = s.inReset ∧ (s.retrySector e).cutOff = s.cutOff ∧
    (s.retrySector e).waitList = s.waitList ∧ (s.retrySector e).choiceHold = s.choiceHold ∧
    (s.retrySector e).stopRequest = s.stopRequest ∧ (s.retrySector e).parser = s.parser ∧
    (s.retrySector e).inbound = s.inbound ∧ (s.retrySector e).replies = s.replies ∧ (s.retrySector e).line = s.line ∧
    (s.retrySector e).partSeq = s.partSeq ∧ (s.retrySector e).params = s.params ∧ (s.retrySector e).restart = s.restart ∧
    (s.retrySector e).notice = s.notice := by
  unfold State.retrySector
  try dsimp only
  simp

@[simp] theorem State.readEnd_frame (s : State) (e : Engagement) (r : Request) (w : Word) (x : List Word × Option Word) :
    (s.readEnd e r w x).pending = s.pending ∧ (s.readEnd e r w x).now = s.now ∧ (s.readEnd e r w x).freeUses = s.freeUses ∧
    (s.readEnd e r w x).media = s.media ∧ (s.readEnd e r w x).inReset = s.inReset ∧ (s.readEnd e r w x).cutOff = s.cutOff ∧
    (s.readEnd e r w x).waitList = s.waitList ∧ (s.readEnd e r w x).choiceHold = s.choiceHold ∧
    (s.readEnd e r w x).stopRequest = s.stopRequest ∧ (s.readEnd e r w x).parser = s.parser ∧
    (s.readEnd e r w x).inbound = s.inbound ∧ (s.readEnd e r w x).replies = s.replies ∧ (s.readEnd e r w x).line = s.line ∧
    (s.readEnd e r w x).partSeq = s.partSeq ∧ (s.readEnd e r w x).params = s.params ∧ (s.readEnd e r w x).restart = s.restart ∧
    (s.readEnd e r w x).notice = s.notice := by
  unfold State.readEnd
  try dsimp only
  repeat' (first | simp; done | split)

@[simp] theorem State.countWritten_frame (s : State) (e : Engagement) :
    (s.countWritten e).pending = s.pending ∧ (s.countWritten e).now = s.now ∧ (s.countWritten e).freeUses = s.freeUses ∧
    (s.countWritten e).media = s.media ∧ (s.countWritten e).inReset = s.inReset ∧ (s.countWritten e).cutOff = s.cutOff ∧
    (s.countWritten e).spindles = s.spindles ∧ (s.countWritten e).waitList = s.waitList ∧
    (s.countWritten e).activity = s.activity ∧ (s.countWritten e).choiceHold = s.choiceHold ∧
    (s.countWritten e).stopRequest = s.stopRequest ∧ (s.countWritten e).parser = s.parser ∧
    (s.countWritten e).inbound = s.inbound ∧ (s.countWritten e).replies = s.replies ∧ (s.countWritten e).stream = s.stream ∧
    (s.countWritten e).line = s.line ∧ (s.countWritten e).partSeq = s.partSeq ∧ (s.countWritten e).params = s.params ∧
    (s.countWritten e).restart = s.restart ∧ (s.countWritten e).events = s.events ∧ (s.countWritten e).notice = s.notice := by
  unfold State.countWritten
  try dsimp only
  simp

@[simp] theorem State.writeEnd_frame (s : State) (e : Engagement) (r : Request) (w : Word) (n : Nat) (b : Buffer) :
    (s.writeEnd e r w n b).pending = s.pending ∧ (s.writeEnd e r w n b).now = s.now ∧
    (s.writeEnd e r w n b).freeUses = s.freeUses ∧ (s.writeEnd e r w n b).inReset = s.inReset ∧
    (s.writeEnd e r w n b).cutOff = s.cutOff ∧ (s.writeEnd e r w n b).waitList = s.waitList ∧
    (s.writeEnd e r w n b).choiceHold = s.choiceHold ∧ (s.writeEnd e r w n b).stopRequest = s.stopRequest ∧
    (s.writeEnd e r w n b).parser = s.parser ∧ (s.writeEnd e r w n b).inbound = s.inbound ∧
    (s.writeEnd e r w n b).replies = s.replies ∧ (s.writeEnd e r w n b).line = s.line ∧
    (s.writeEnd e r w n b).partSeq = s.partSeq ∧ (s.writeEnd e r w n b).params = s.params ∧
    (s.writeEnd e r w n b).restart = s.restart ∧ (s.writeEnd e r w n b).notice = s.notice := by
  unfold State.writeEnd
  try dsimp only
  repeat' split
  all_goals simp

@[simp] theorem State.cleanPass_frame (s : State) (e : Engagement) (r : Request) :
    (s.cleanPass e r).pending = s.pending ∧ (s.cleanPass e r).now = s.now ∧ (s.cleanPass e r).freeUses = s.freeUses ∧
    (s.cleanPass e r).media = s.media ∧ (s.cleanPass e r).inReset = s.inReset ∧ (s.cleanPass e r).cutOff = s.cutOff ∧
    (s.cleanPass e r).waitList = s.waitList ∧ (s.cleanPass e r).choiceHold = s.choiceHold ∧
    (s.cleanPass e r).stopRequest = s.stopRequest ∧ (s.cleanPass e r).parser = s.parser ∧
    (s.cleanPass e r).inbound = s.inbound ∧ (s.cleanPass e r).replies = s.replies ∧ (s.cleanPass e r).line = s.line ∧
    (s.cleanPass e r).partSeq = s.partSeq ∧ (s.cleanPass e r).params = s.params ∧ (s.cleanPass e r).restart = s.restart ∧
    (s.cleanPass e r).notice = s.notice := by
  unfold State.cleanPass
  try dsimp only
  repeat' split
  all_goals simp

@[simp] theorem State.entryGood_frame (s : State) (e : Engagement) (l : List PendingEntry) :
    (s.entryGood e l).pending = s.pending ∧ (s.entryGood e l).now = s.now ∧ (s.entryGood e l).freeUses = s.freeUses ∧
    (s.entryGood e l).media = s.media ∧ (s.entryGood e l).inReset = s.inReset ∧ (s.entryGood e l).cutOff = s.cutOff ∧
    (s.entryGood e l).waitList = s.waitList ∧ (s.entryGood e l).choiceHold = s.choiceHold ∧
    (s.entryGood e l).stopRequest = s.stopRequest ∧ (s.entryGood e l).parser = s.parser ∧
    (s.entryGood e l).inbound = s.inbound ∧ (s.entryGood e l).replies = s.replies ∧ (s.entryGood e l).line = s.line ∧
    (s.entryGood e l).partSeq = s.partSeq ∧ (s.entryGood e l).params = s.params ∧ (s.entryGood e l).restart = s.restart ∧
    (s.entryGood e l).notice = s.notice := by
  unfold State.entryGood
  try dsimp only
  repeat' split
  all_goals simp

@[simp] theorem State.passEnd_frame (s : State) (e : Engagement) (w : Word) (x : List Word × Option Word) :
    (s.passEnd e w x).pending = s.pending ∧ (s.passEnd e w x).now = s.now ∧ (s.passEnd e w x).freeUses = s.freeUses ∧
    (s.passEnd e w x).media = s.media ∧ (s.passEnd e w x).inReset = s.inReset ∧ (s.passEnd e w x).cutOff = s.cutOff ∧
    (s.passEnd e w x).waitList = s.waitList ∧ (s.passEnd e w x).choiceHold = s.choiceHold ∧
    (s.passEnd e w x).stopRequest = s.stopRequest ∧ (s.passEnd e w x).parser = s.parser ∧
    (s.passEnd e w x).inbound = s.inbound ∧ (s.passEnd e w x).replies = s.replies ∧ (s.passEnd e w x).line = s.line ∧
    (s.passEnd e w x).partSeq = s.partSeq ∧ (s.passEnd e w x).params = s.params ∧ (s.passEnd e w x).restart = s.restart ∧
    (s.passEnd e w x).notice = s.notice := by
  unfold State.passEnd
  try dsimp only
  repeat' split
  all_goals simp

@[simp] theorem State.dataFieldEnd_frame (s : State) (x : FieldRead) :
    (s.dataFieldEnd x).pending = s.pending ∧ (s.dataFieldEnd x).now = s.now ∧ (s.dataFieldEnd x).freeUses = s.freeUses ∧
    (s.dataFieldEnd x).inReset = s.inReset ∧ (s.dataFieldEnd x).cutOff = s.cutOff ∧ (s.dataFieldEnd x).waitList = s.waitList ∧
    (s.dataFieldEnd x).choiceHold = s.choiceHold ∧ (s.dataFieldEnd x).stopRequest = s.stopRequest ∧
    (s.dataFieldEnd x).parser = s.parser ∧ (s.dataFieldEnd x).inbound = s.inbound ∧ (s.dataFieldEnd x).replies = s.replies ∧
    (s.dataFieldEnd x).line = s.line ∧ (s.dataFieldEnd x).partSeq = s.partSeq ∧ (s.dataFieldEnd x).params = s.params ∧
    (s.dataFieldEnd x).restart = s.restart ∧ (s.dataFieldEnd x).notice = s.notice := by
  unfold State.dataFieldEnd
  try dsimp only
  repeat' split
  all_goals simp

@[simp] theorem State.formatSlotWritten_frame (s : State) :
    (s.formatSlotWritten).pending = s.pending ∧ (s.formatSlotWritten).now = s.now ∧
    (s.formatSlotWritten).freeUses = s.freeUses ∧ (s.formatSlotWritten).inReset = s.inReset ∧
    (s.formatSlotWritten).cutOff = s.cutOff ∧ (s.formatSlotWritten).waitList = s.waitList ∧
    (s.formatSlotWritten).choiceHold = s.choiceHold ∧ (s.formatSlotWritten).stopRequest = s.stopRequest ∧
    (s.formatSlotWritten).parser = s.parser ∧ (s.formatSlotWritten).inbound = s.inbound ∧
    (s.formatSlotWritten).replies = s.replies ∧ (s.formatSlotWritten).line = s.line ∧
    (s.formatSlotWritten).partSeq = s.partSeq ∧ (s.formatSlotWritten).params = s.params ∧
    (s.formatSlotWritten).restart = s.restart ∧ (s.formatSlotWritten).events = s.events ∧
    (s.formatSlotWritten).notice = s.notice := by
  unfold State.formatSlotWritten
  try dsimp only
  repeat' split
  all_goals simp

@[simp] theorem State.motionDone_frame (s : State) (p : Port) :
    (s.motionDone p).pending = s.pending ∧ (s.motionDone p).now = s.now ∧ (s.motionDone p).freeUses = s.freeUses ∧
    (s.motionDone p).media = s.media ∧ (s.motionDone p).inReset = s.inReset ∧ (s.motionDone p).cutOff = s.cutOff ∧
    (s.motionDone p).waitList = s.waitList ∧ (s.motionDone p).activity = s.activity ∧ (s.motionDone p).table = s.table ∧
    (s.motionDone p).choiceHold = s.choiceHold ∧ (s.motionDone p).chan = s.chan ∧ (s.motionDone p).stopRequest = s.stopRequest ∧
    (s.motionDone p).free = s.free ∧ (s.motionDone p).parser = s.parser ∧ (s.motionDone p).inbound = s.inbound ∧
    (s.motionDone p).replies = s.replies ∧ (s.motionDone p).stream = s.stream ∧ (s.motionDone p).line = s.line ∧
    (s.motionDone p).partSeq = s.partSeq ∧ (s.motionDone p).params = s.params ∧ (s.motionDone p).restart = s.restart ∧
    (s.motionDone p).events = s.events ∧ (s.motionDone p).notice = s.notice := by
  unfold State.motionDone
  try dsimp only
  repeat' split
  all_goals simp

@[simp] theorem State.chargeOwner_frame (s : State) (o : Option Tag) :
    (s.chargeOwner o).pending = s.pending ∧ (s.chargeOwner o).now = s.now ∧ (s.chargeOwner o).freeUses = s.freeUses ∧
    (s.chargeOwner o).media = s.media ∧ (s.chargeOwner o).inReset = s.inReset ∧ (s.chargeOwner o).cutOff = s.cutOff ∧
    (s.chargeOwner o).waitList = s.waitList ∧ (s.chargeOwner o).choiceHold = s.choiceHold ∧
    (s.chargeOwner o).stopRequest = s.stopRequest ∧ (s.chargeOwner o).parser = s.parser ∧
    (s.chargeOwner o).inbound = s.inbound ∧ (s.chargeOwner o).replies = s.replies ∧ (s.chargeOwner o).line = s.line ∧
    (s.chargeOwner o).partSeq = s.partSeq ∧ (s.chargeOwner o).params = s.params ∧ (s.chargeOwner o).restart = s.restart ∧
    (s.chargeOwner o).events = s.events ∧ (s.chargeOwner o).notice = s.notice := by
  unfold State.chargeOwner
  try dsimp only
  repeat' split
  all_goals simp

@[simp] theorem State.seekFailed_frame (s : State) (p : Port) (o : Option Tag) :
    (s.seekFailed p o).pending = s.pending ∧ (s.seekFailed p o).now = s.now ∧ (s.seekFailed p o).freeUses = s.freeUses ∧
    (s.seekFailed p o).media = s.media ∧ (s.seekFailed p o).inReset = s.inReset ∧ (s.seekFailed p o).cutOff = s.cutOff ∧
    (s.seekFailed p o).waitList = s.waitList ∧ (s.seekFailed p o).choiceHold = s.choiceHold ∧
    (s.seekFailed p o).stopRequest = s.stopRequest ∧ (s.seekFailed p o).parser = s.parser ∧
    (s.seekFailed p o).inbound = s.inbound ∧ (s.seekFailed p o).replies = s.replies ∧ (s.seekFailed p o).line = s.line ∧
    (s.seekFailed p o).partSeq = s.partSeq ∧ (s.seekFailed p o).params = s.params ∧ (s.seekFailed p o).restart = s.restart ∧
    (s.seekFailed p o).notice = s.notice := by
  unfold State.seekFailed
  try dsimp only
  simp

@[simp] theorem State.motionFailed_frame (s : State) (p : Port) :
    (s.motionFailed p).pending = s.pending ∧ (s.motionFailed p).now = s.now ∧ (s.motionFailed p).inReset = s.inReset ∧
    (s.motionFailed p).cutOff = s.cutOff ∧ (s.motionFailed p).choiceHold = s.choiceHold ∧
    (s.motionFailed p).stopRequest = s.stopRequest ∧ (s.motionFailed p).parser = s.parser ∧
    (s.motionFailed p).inbound = s.inbound ∧ (s.motionFailed p).replies = s.replies ∧ (s.motionFailed p).line = s.line ∧
    (s.motionFailed p).partSeq = s.partSeq ∧ (s.motionFailed p).params = s.params ∧ (s.motionFailed p).restart = s.restart ∧
    (s.motionFailed p).notice = s.notice := by
  unfold State.motionFailed
  try dsimp only
  repeat' split
  all_goals simp

@[simp] theorem State.motionTimeout_frame (s : State) (p : Port) :
    (s.motionTimeout p).pending = s.pending ∧ (s.motionTimeout p).inReset = s.inReset ∧ (s.motionTimeout p).cutOff = s.cutOff ∧
    (s.motionTimeout p).choiceHold = s.choiceHold ∧ (s.motionTimeout p).stopRequest = s.stopRequest ∧
    (s.motionTimeout p).parser = s.parser ∧ (s.motionTimeout p).inbound = s.inbound ∧ (s.motionTimeout p).replies = s.replies ∧
    (s.motionTimeout p).line = s.line ∧ (s.motionTimeout p).partSeq = s.partSeq ∧ (s.motionTimeout p).params = s.params ∧
    (s.motionTimeout p).restart = s.restart ∧ (s.motionTimeout p).notice = s.notice := by
  unfold State.motionTimeout
  try dsimp only
  repeat' split
  all_goals simp

@[simp] theorem State.spinUpTimeout_frame (s : State) (p : Port) :
    (s.spinUpTimeout p).pending = s.pending ∧ (s.spinUpTimeout p).inReset = s.inReset ∧ (s.spinUpTimeout p).cutOff = s.cutOff ∧
    (s.spinUpTimeout p).choiceHold = s.choiceHold ∧ (s.spinUpTimeout p).stopRequest = s.stopRequest ∧
    (s.spinUpTimeout p).parser = s.parser ∧ (s.spinUpTimeout p).inbound = s.inbound ∧ (s.spinUpTimeout p).replies = s.replies ∧
    (s.spinUpTimeout p).line = s.line ∧ (s.spinUpTimeout p).partSeq = s.partSeq ∧ (s.spinUpTimeout p).params = s.params ∧
    (s.spinUpTimeout p).restart = s.restart ∧ (s.spinUpTimeout p).notice = s.notice := by
  unfold State.spinUpTimeout
  try dsimp only
  repeat' split
  all_goals simp

@[simp] theorem State.spinDownTimeout_frame (s : State) (p : Port) :
    (s.spinDownTimeout p).pending = s.pending ∧ (s.spinDownTimeout p).inReset = s.inReset ∧
    (s.spinDownTimeout p).cutOff = s.cutOff ∧ (s.spinDownTimeout p).choiceHold = s.choiceHold ∧
    (s.spinDownTimeout p).stopRequest = s.stopRequest ∧ (s.spinDownTimeout p).parser = s.parser ∧
    (s.spinDownTimeout p).inbound = s.inbound ∧ (s.spinDownTimeout p).replies = s.replies ∧
    (s.spinDownTimeout p).line = s.line ∧ (s.spinDownTimeout p).partSeq = s.partSeq ∧ (s.spinDownTimeout p).params = s.params ∧
    (s.spinDownTimeout p).restart = s.restart ∧ (s.spinDownTimeout p).notice = s.notice := by
  unfold State.spinDownTimeout
  try dsimp only
  repeat' split
  all_goals simp

@[simp] theorem State.idleTimeout_frame (s : State) (p : Port) :
    (s.idleTimeout p).pending = s.pending ∧ (s.idleTimeout p).freeUses = s.freeUses ∧ (s.idleTimeout p).media = s.media ∧
    (s.idleTimeout p).inReset = s.inReset ∧ (s.idleTimeout p).cutOff = s.cutOff ∧ (s.idleTimeout p).activity = s.activity ∧
    (s.idleTimeout p).choiceHold = s.choiceHold ∧ (s.idleTimeout p).chan = s.chan ∧
    (s.idleTimeout p).stopRequest = s.stopRequest ∧ (s.idleTimeout p).free = s.free ∧ (s.idleTimeout p).parser = s.parser ∧
    (s.idleTimeout p).inbound = s.inbound ∧ (s.idleTimeout p).replies = s.replies ∧ (s.idleTimeout p).stream = s.stream ∧
    (s.idleTimeout p).line = s.line ∧ (s.idleTimeout p).partSeq = s.partSeq ∧ (s.idleTimeout p).params = s.params ∧
    (s.idleTimeout p).restart = s.restart ∧ (s.idleTimeout p).notice = s.notice := by
  unfold State.idleTimeout
  try dsimp only
  repeat' split
  all_goals simp

@[simp] theorem State.ageTimeout_frame (s : State) (t : Tag) :
    (s.ageTimeout t).pending = s.pending ∧ (s.ageTimeout t).freeUses = s.freeUses ∧ (s.ageTimeout t).media = s.media ∧
    (s.ageTimeout t).inReset = s.inReset ∧ (s.ageTimeout t).cutOff = s.cutOff ∧ (s.ageTimeout t).spindles = s.spindles ∧
    (s.ageTimeout t).waitList = s.waitList ∧ (s.ageTimeout t).activity = s.activity ∧
    (s.ageTimeout t).choiceHold = s.choiceHold ∧ (s.ageTimeout t).chan = s.chan ∧ (s.ageTimeout t).stopRequest = s.stopRequest ∧
    (s.ageTimeout t).free = s.free ∧ (s.ageTimeout t).parser = s.parser ∧ (s.ageTimeout t).inbound = s.inbound ∧
    (s.ageTimeout t).replies = s.replies ∧ (s.ageTimeout t).stream = s.stream ∧ (s.ageTimeout t).line = s.line ∧
    (s.ageTimeout t).partSeq = s.partSeq ∧ (s.ageTimeout t).params = s.params ∧ (s.ageTimeout t).restart = s.restart ∧
    (s.ageTimeout t).events = s.events ∧ (s.ageTimeout t).notice = s.notice := by
  unfold State.ageTimeout
  try dsimp only
  repeat' split
  all_goals simp

end Sys2Proof.Machine
end

