-- ==== Sys2Proof/Laws/Lookup.lean ====
section
/-! SUPPORT. Reading back what was written: spindle ports, requests, and the media list. -/

namespace Sys2Proof.Machine

/-! ### Spindle ports -/

theorem State.spindle_setSpindle (s : State) (p q : Port) (r : Spindle) :
    (s.setSpindle p r).spindle q = if p = q then r else s.spindle q := by
  unfold State.spindle State.setSpindle
  by_cases h : p = q
  · subst h
    simp
  · have h' : p.val ≠ q.val := fun e => h (Fin.ext e)
    simp [h, h']

@[simp] theorem State.spindle_setSpindle_same (s : State) (p : Port) (r : Spindle) : (s.setSpindle p r).spindle p = r := by
  simp [State.spindle_setSpindle]

theorem State.spindle_modSpindle (s : State) (p q : Port) (f : Spindle → Spindle) :
    (s.modSpindle p f).spindle q = if p = q then f (s.spindle q) else s.spindle q := by
  unfold State.modSpindle
  rw [State.spindle_setSpindle]
  by_cases h : p = q <;> simp [h]

@[simp] theorem State.spindle_modSpindle_same (s : State) (p : Port) (f : Spindle → Spindle) :
    (s.modSpindle p f).spindle p = f (s.spindle p) := by
  simp [State.spindle_modSpindle]

/-- A spindle's records depend on the `spindles` field alone. -/
theorem State.spindle_congr {s t : State} (h : t.spindles = s.spindles) (p : Port) : t.spindle p = s.spindle p := by
  simp [State.spindle, h]

/-- A spindle's request count depends on the table alone. -/
theorem State.requestCount_congr {s t : State} (h : t.table = s.table) (p : Port) : t.requestCount p = s.requestCount p := by
  simp [State.requestCount, State.requestsOf, h]

theorem mem_allPorts (p : Port) : p ∈ allPorts := by
  revert p
  decide

/-! ### Requests -/

/-- The request of a tag carries it. -/
theorem State.request_tag {s : State} {t : Tag} {r : Request} (h : s.request t = some r) : r.tag = t := by
  have := List.find?_some h
  simpa using this

theorem State.request_mem {s : State} {t : Tag} {r : Request} (h : s.request t = some r) : r ∈ s.table :=
  List.mem_of_find?_eq_some h

theorem State.request_congr {s t : State} (h : t.table = s.table) (g : Tag) : t.request g = s.request g := by
  simp [State.request, h]

/-- An update that keeps tags leaves the lookup of every tag in place. -/
theorem State.request_modRequest (s : State) (t g : Tag) (f : Request → Request) (hf : ∀ r, (f r).tag = r.tag) :
    (s.modRequest t f).request g = (s.request g).map fun r => if r.tag = t then f r else r := by
  unfold State.request State.modRequest
  rw [List.find?_map]
  congr 1
  congr 1
  funext r
  by_cases h : r.tag = t <;> simp [h, hf]

/-! ### The media list -/

theorem mediaRead_insert (m : List (Nat × Slot)) (k j : Nat) (v : Slot) :
    mediaRead (mediaInsert m k v) j = if k = j then v else mediaRead m j := by
  induction m with
  | nil => simp [mediaInsert, mediaRead]
  | cons e rest ih =>
    obtain ⟨i, w⟩ := e
    unfold mediaInsert
    split
    · by_cases h : k = j <;> simp [mediaRead, h]
    · split
      · rename_i h1 h2
        subst h2
        by_cases h : k = j <;> simp [mediaRead, h]
      · rename_i h1 h2
        by_cases h : i = j
        · have : ¬ k = j := fun e => h2 (e.trans h.symm)
          simp [mediaRead, h, this]
        · simp [mediaRead, h, ih]

theorem mediaRead_erase (m : List (Nat × Slot)) (k j : Nat) :
    mediaRead (m.filter fun e => e.1 != k) j = if k = j then blankSlot j else mediaRead m j := by
  induction m with
  | nil => simp [mediaRead]
  | cons e rest ih =>
    obtain ⟨i, w⟩ := e
    rw [List.filter_cons]
    by_cases h : i = k
    · have hb : ((i, w).1 != k) = false := by simp [h]
      rw [hb, if_neg Bool.false_ne_true, ih]
      by_cases h2 : k = j
      · simp [h2]
      · have h3 : ¬ i = j := fun e => h2 (h.symm.trans e)
        simp [mediaRead, h2, h3]
    · have hb : ((i, w).1 != k) = true := by simp [h]
      rw [hb, if_pos rfl]
      by_cases h2 : i = j
      · have h3 : ¬ k = j := fun e => h (h2.trans e.symm)
        simp [mediaRead, h2, h3]
      · simp only [mediaRead, if_neg h2, ih]

/-- A slot written reads back, and every other slot reads as before. -/
theorem mediaRead_write (m : List (Nat × Slot)) (k j : Nat) (v : Slot) :
    mediaRead (mediaWrite m k v) j = if k = j then v else mediaRead m j := by
  unfold mediaWrite
  split
  · rename_i h
    rw [mediaRead_erase]
    by_cases h2 : k = j <;> simp [h2]
    rw [h, h2]
  · rw [mediaRead_insert]

/-- The first place of a rising list, if it has one, lies above a bound. -/
theorem mediaRising_cons (k : Nat) (v : Slot) (m : List (Nat × Slot)) :
    mediaRising ((k, v) :: m) = true ↔ (∀ e ∈ m, k < e.1) ∧ mediaRising m = true := by
  induction m generalizing k v with
  | nil => simp [mediaRising]
  | cons e rest ih =>
    obtain ⟨j, w⟩ := e
    rw [mediaRising, Bool.and_eq_true, decide_eq_true_eq, ih]
    constructor
    · rintro ⟨h1, h2, h3⟩
      refine ⟨?_, h2, h3⟩
      intro x hx
      rcases List.mem_cons.mp hx with rfl | hx
      · exact h1
      · exact Nat.lt_trans h1 (h2 x hx)
    · rintro ⟨h1, h2, h3⟩
      exact ⟨h1 (j, w) (List.mem_cons_self ..), h2, h3⟩

theorem mem_mediaInsert {m : List (Nat × Slot)} {k : Nat} {v : Slot} {e : Nat × Slot} (h : e ∈ mediaInsert m k v) :
    e = (k, v) ∨ e ∈ m := by
  induction m with
  | nil =>
    simp [mediaInsert] at h
    exact .inl h
  | cons x rest ih =>
    obtain ⟨i, w⟩ := x
    unfold mediaInsert at h
    split at h
    · rcases List.mem_cons.mp h with h | h
      · exact .inl h
      · exact .inr h
    · split at h
      · rcases List.mem_cons.mp h with h | h
        · exact .inl h
        · exact .inr (List.mem_cons_of_mem _ h)
      · rcases List.mem_cons.mp h with h | h
        · exact .inr (h ▸ List.mem_cons_self ..)
        · rcases ih h with h | h
          · exact .inl h
          · exact .inr (List.mem_cons_of_mem _ h)

theorem mediaRising_insert (m : List (Nat × Slot)) (k : Nat) (v : Slot) (h : mediaRising m = true) :
    mediaRising (mediaInsert m k v) = true := by
  induction m with
  | nil => simp [mediaInsert, mediaRising]
  | cons x rest ih =>
    obtain ⟨i, w⟩ := x
    have hx := (mediaRising_cons i w rest).mp h
    unfold mediaInsert
    split
    · rename_i hlt
      rw [mediaRising_cons]
      refine ⟨?_, h⟩
      intro e he
      rcases List.mem_cons.mp he with rfl | he
      · exact hlt
      · exact Nat.lt_trans hlt (hx.1 e he)
    · split
      · rename_i _ heq
        subst heq
        exact (mediaRising_cons k v rest).mpr hx
      · rename_i h1 h2
        rw [mediaRising_cons]
        refine ⟨?_, ih hx.2⟩
        intro e he
        rcases mem_mediaInsert he with rfl | he
        · simp only
          omega
        · exact hx.1 e he

theorem mediaRising_filter (m : List (Nat × Slot)) (q : Nat × Slot → Bool) (h : mediaRising m = true) :
    mediaRising (m.filter q) = true := by
  induction m with
  | nil => simpa using h
  | cons x rest ih =>
    obtain ⟨i, w⟩ := x
    have hx := (mediaRising_cons i w rest).mp h
    rw [List.filter_cons]
    split
    · rw [mediaRising_cons]
      exact ⟨fun e he => hx.1 e (List.mem_filter.mp he).1, ih hx.2⟩
    · exact ih hx.2

/-- A write keeps the one form of the media list. -/
theorem mediaWf_write (m : List (Nat × Slot)) (k : Nat) (v : Slot) (h : mediaWf m = true) : mediaWf (mediaWrite m k v) = true := by
  unfold mediaWf at h ⊢
  rw [Bool.and_eq_true, List.all_eq_true] at h ⊢
  unfold mediaWrite
  split
  · exact ⟨mediaRising_filter m _ h.1, fun e he => h.2 e (List.mem_filter.mp he).1⟩
  · rename_i hv
    refine ⟨mediaRising_insert m k v h.1, fun e he => ?_⟩
    rcases mem_mediaInsert he with rfl | he
    · simpa using hv
    · exact h.2 e he

end Sys2Proof.Machine
end

