-- ==== Sys2Proof/Laws/Event.lean ====
section
/-! SUPPORT. The end of an event: when it changes nothing, and what it leaves alone whatever it does. -/

namespace Sys2Proof.Machine

/-- Two states between which nothing has happened that the Spindle Manager, the Scheduler or RESTART takes as a cause. -/
structure Quiet (s t : State) : Prop where
  spindles : t.spindles = s.spindles
  table : t.table = s.table
  waitList : t.waitList = s.waitList
  chan : t.chan = s.chan
  stopRequest : t.stopRequest = s.stopRequest
  choiceHold : t.choiceHold = s.choiceHold
  spinLimit : t.params.spinLimit = s.params.spinLimit
  surgeLimit : t.params.surgeLimit = s.params.surgeLimit

theorem Quiet.refl (s : State) : Quiet s s := ⟨rfl, rfl, rfl, rfl, rfl, rfl, rfl, rfl⟩

theorem stopDone_quiet {s t : State} (h : Quiet s t) : stopDone s t = false := by
  unfold stopDone
  rw [h.stopRequest, h.chan]
  cases (s.stopRequest && s.chan.isNone) <;> rfl

theorem spindleBudgetCause_quiet {s t : State} (h : Quiet s t) (p : Port) : spindleBudgetCause s t p = false := by
  unfold spindleBudgetCause
  simp only [State.spindle_congr h.spindles, State.requestCount_congr h.table, h.waitList]
  cases s.waitList.contains p <;> cases (s.spindle p).state <;> cases (s.spindle p).arm <;> cases s.requestCount p <;>
    simp [SpindleState.spinning, Arm.timer, Arm.isSettled]

theorem budgetDue_quiet {s t : State} (h : Quiet s t) : budgetDue s t = false := by
  unfold budgetDue
  simp [h.spinLimit, h.surgeLimit, spindleBudgetCause_quiet h]

theorem spindleScheduleCause_quiet {s t : State} (h : Quiet s t) (p : Port) : spindleScheduleCause s t p = false := by
  unfold spindleScheduleCause
  simp [State.spindle_congr h.spindles]

theorem scheduleDue_quiet {s t : State} (h : Quiet s t) : scheduleDue s t = false := by
  unfold scheduleDue
  simp only [State.queuedTags, State.overdueTags, State.admissionList, h.table, h.chan, h.choiceHold]
  cases s.chan <;> simp [spindleScheduleCause_quiet h] <;> exact ⟨fun r hr ho => ⟨r, hr, ho, rfl⟩, fun r hr => ⟨r, hr, rfl⟩⟩

/-- After a quiet event nothing is due. -/
theorem finish_quiet {s t : State} (h : Quiet s t) : finish s t = t := by
  simp [finish, stopDone_quiet h, budgetDue_quiet h, scheduleDue_quiet h]

@[simp] theorem finish_self (s : State) : finish s s = s := finish_quiet (Quiet.refl s)

/-- With a frame in transmission the arbiter makes no choice. -/
theorem serve_busy (s t : State) (h : t.line.isSome = true) : serve s t = t := by
  unfold serve
  cases hl : t.line <;> simp [hl] at h ⊢

/-- With the line idle before and after and no source filled, the arbiter makes no choice. -/
theorem serve_idle (s t : State) (hl : s.line = none) (h : sourceFilled s t = false) : serve s t = t := by
  unfold serve
  simp [hl, h]

/-- The arbiter makes no choice in an event that leaves the line and its sources as they were. -/
theorem serve_quiet {s t : State} (hl : t.line = s.line) (hr : t.replies = s.replies) (hn : t.notice = s.notice)
    (he : t.events = s.events) (hs : t.stream = s.stream) : serve s t = t := by
  cases h : s.line with
  | some f => exact serve_busy s t (by simp [hl, h])
  | none =>
    refine serve_idle s t h ?_
    unfold sourceFilled
    rw [hr, hn, he, hs]
    cases s.replies <;> cases s.events <;> cases s.stream <;> cases s.notice.isPending <;> rfl

@[simp] theorem serve_self (s : State) : serve s s = s := serve_quiet rfl rfl rfl rfl rfl

@[simp] theorem settle_self (s : State) : settle s s = s := by simp [settle]

/-- The end of an event leaves these alone. -/
@[simp] theorem finish_frame (s t : State) :
    (finish s t).pending = t.pending ∧ (finish s t).now = t.now ∧ (finish s t).freeUses = t.freeUses ∧
    (finish s t).media = t.media ∧ (finish s t).inReset = t.inReset ∧ (finish s t).cutOff = t.cutOff ∧
    (finish s t).parser = t.parser ∧ (finish s t).inbound = t.inbound ∧ (finish s t).line = t.line ∧
    (finish s t).partSeq = t.partSeq ∧ (finish s t).params = t.params := by
  unfold finish
  dsimp only
  refine ⟨?_, ?_, ?_, ?_, ?_, ?_, ?_, ?_, ?_, ?_⟩ <;> (repeat' split) <;> simp

/-- Without a RESTART's clearing step, the end of an event leaves these alone too. -/
theorem finish_frame_running (s t : State) (h : stopDone s t = false) :
    (finish s t).replies = t.replies ∧ (finish s t).notice = t.notice ∧ (finish s t).stream = t.stream ∧
    (finish s t).restart = t.restart ∧ (finish s t).choiceHold = t.choiceHold ∧ (finish s t).stopRequest = t.stopRequest ∧
    (finish s t).free = t.free ∧ (finish s t).activity = t.activity := by
  unfold finish
  simp only [h, Bool.false_eq_true, if_false]
  refine ⟨?_, ?_, ?_, ?_, ?_, ?_, ?_, ?_⟩ <;> (repeat' split) <;> simp

/-- The arbiter touches the outbound sources, the line and the part sequence alone. -/
@[simp] theorem serve_frame (s t : State) :
    (serve s t).pending = t.pending ∧ (serve s t).now = t.now ∧ (serve s t).freeUses = t.freeUses ∧
    (serve s t).media = t.media ∧ (serve s t).inReset = t.inReset ∧ (serve s t).cutOff = t.cutOff ∧
    (serve s t).spindles = t.spindles ∧ (serve s t).waitList = t.waitList ∧ (serve s t).activity = t.activity ∧
    (serve s t).table = t.table ∧ (serve s t).choiceHold = t.choiceHold ∧ (serve s t).chan = t.chan ∧
    (serve s t).stopRequest = t.stopRequest ∧ (serve s t).free = t.free ∧ (serve s t).parser = t.parser ∧
    (serve s t).inbound = t.inbound ∧ (serve s t).params = t.params ∧ (serve s t).restart = t.restart := by
  unfold serve
  split <;> simp

/-- With the line idle before an event, a REPLY appended in it is served at once or waits behind another. -/
theorem arbitrate_reply (s : State) (r : Reply) (rest : List Reply) (h : s.replies = r :: rest) :
    s.arbitrate = (s.setReplies rest).transmit 0x81 (replyBody r) false := by
  simp [State.arbitrate, h]

/-- A message whose handling may not begin is not taken. -/
theorem handle_waits (i : Instr) (k q : Byte) (j : State → Judged) (s : State) (h : s.canHandle i = false) :
    handle i k q j s = .next s := by
  simp [handle, h]

/-- A message refused changes nothing but the queues: its frame leaves the one and its REPLY joins the other. -/
theorem handle_refuse (i : Instr) (k q : Byte) (j : State → Judged) (s : State) (c : Code) (h : s.canHandle i = true)
    (hj : j s.popInbound = refuse c s.popInbound) :
    handle i k q j s = .next (serve s.popInbound (s.popInbound.pushReply k q c [])) := by
  simp [handle, h, hj, refuse]

/-- A message accepted. -/
theorem handle_accept (i : Instr) (k q : Byte) (j : State → Judged) (s v : State) (h : s.canHandle i = true)
    (hj : j s.popInbound = accept v) :
    handle i k q j s = .next (serve s.popInbound ((finish s.popInbound v).pushReply k q .ok [])) := by
  simp [handle, h, hj, accept]

/-- An event is not taken in reset, and otherwise settles its effect. -/
theorem event_running (s : State) (f : State → State) (h : s.inReset = false) : event s f = .next (settle s (f s)) := by
  simp [event, h]

/-- An event whose effect is none. -/
theorem event_none (s : State) (f : State → State) (h : f s = s) : event s f = .next s := by
  unfold event
  split <;> simp [h]

end Sys2Proof.Machine
end

