-- ==== Sys2Proof/Laws/Spec.lean ====
section
/-! SUPPORT. One lemma per shared operation, in the terms of the statements: all that it does to a request, to the table, to the
free pool and to the channel's record; and the byte order laws. -/

namespace Sys2Proof.Machine

/-! ### Byte order -/

@[simp] theorem halfOf_le16 (h : Half) : halfOf (h.extractLsb' 0 8) (h.extractLsb' 8 8) = h := by
  unfold halfOf
  ext i hi
  simp only [BitVec.getElem_append, BitVec.getElem_extractLsb']
  split
  · rw [Nat.zero_add, BitVec.getLsbD_eq_getElem]
  · rw [BitVec.getLsbD_eq_getElem (by omega)]
    congr 1
    omega

@[simp] theorem wordOf_le32 (w : Word) :
    wordOf (w.extractLsb' 0 8) (w.extractLsb' 8 8) (w.extractLsb' 16 8) (w.extractLsb' 24 8) = w := by
  unfold wordOf
  ext i hi
  simp only [BitVec.getElem_append, BitVec.getElem_extractLsb']
  split
  · rw [Nat.zero_add, BitVec.getLsbD_eq_getElem]
  · split
    · rw [BitVec.getLsbD_eq_getElem (by omega)]
      congr 1
      omega
    · split <;>
      · rw [BitVec.getLsbD_eq_getElem (by omega)]
        congr 1
        omega

/-- The data words of a payload are the words it was made of (R5). -/
@[simp] theorem wordsOfBytes_bytesOfWords (ws : List Word) : wordsOfBytes (bytesOfWords ws) = ws := by
  induction ws with
  | nil => rfl
  | cons w ws ih =>
    simp only [bytesOfWords, List.flatMap_cons, le32, List.cons_append, List.nil_append, wordsOfBytes, wordOf_le32] at ih ⊢
    rw [ih]

/-- A payload has four bytes for each word (R5). -/
@[simp] theorem bytesOfWords_length (ws : List Word) : (bytesOfWords ws).length = 4 * ws.length := by
  induction ws with
  | nil => rfl
  | cons w ws ih => simp [bytesOfWords, le32] at ih ⊢; omega

/-! ### Spindle ports -/

/-- Two states' port records are equal when each port's are. -/
theorem State.spindles_ext {s t : State} (h : ∀ p : Port, t.spindle p = s.spindle p) : t.spindles = s.spindles := by
  apply Vector.ext
  intro i hi
  exact h ⟨i, hi⟩

/-! ### Hold reasons -/

/-- R84, R85: an evaluation leaves an ACTIVE request as it stands and otherwise grades it by its reasons. -/
theorem Request.evaluate_eq (r : Request) (f : Holds → Holds) : r.evaluate f = r.withHolds (f r.holds) := by
  rcases r with ⟨_, _, _, _, _, _, _, _, st, _, _, _, _, _, _, _, _, _, _, _, _⟩
  cases st <;> simp [Request.evaluate, Request.withHolds, Request.regrade, Holds.held]

@[simp] theorem Request.withHolds_tag (r : Request) (h : Holds) : (r.withHolds h).tag = r.tag := by
  unfold Request.withHolds
  split <;> rfl

@[simp] theorem Request.withHolds_spindle (r : Request) (h : Holds) : (r.withHolds h).spindle = r.spindle := by
  unfold Request.withHolds
  split <;> rfl

@[simp] theorem Request.withHolds_staged (r : Request) (h : Holds) : (r.withHolds h).staged = r.staged := by
  unfold Request.withHolds
  split <;> rfl

@[simp] theorem Request.withHolds_active (r : Request) (h : Holds) :
    (r.withHolds h).status = .active ↔ r.status = .active := by
  unfold Request.withHolds
  split
  · rfl
  · next h =>
    simp only [h, iff_false]
    split <;> simp

/-- R84: the evaluation of SPINDLE for every request of a spindle. -/
theorem State.evalSpindleHold_eq (s : State) (p : Port) :
    s.evalSpindleHold p = { s with table := s.table.map (Request.spindleEvaluated p (s.spindleHold p)) } := by
  unfold State.evalSpindleHold Request.spindleEvaluated
  simp only [Request.evaluate_eq]

/-- R84, R88: the evaluation of BARRIER for every request of a spindle, against its older requests. -/
theorem regradeBarriers_eq (p : Port) (older table : List Request) :
    regradeBarriers p older table =
      (List.range table.length).zipWith
        (fun k r =>
          if r.spindle = p then r.withHolds { r.holds with barrier := barrierHold (older ++ table.take k) r } else r) table := by
  induction table generalizing older with
  | nil => rfl
  | cons r rest ih =>
    simp [regradeBarriers, ih, Request.evaluate_eq, List.range_succ_eq_map, List.zipWith_map_left]

/-! ### Buffers -/

/-- R160: the return of some buffers. -/
theorem State.returnBuffers_eq (s : State) (n : Nat) :
    s.returnBuffers n = { s with free := s.free + n, table := s.table.map (Request.afterReturn n) } := by
  unfold State.returnBuffers State.liftNoBuffer State.setFree Request.afterReturn
  split
  · next h => simp [h]
  · next h => simp [h, Request.evaluate_eq]

/-- R145: the channel's record cleared. -/
theorem State.closeChannel_eq {s : State} {e : Engagement} (h : s.chan = some e) : s.closeChannel = s.channelClosed e := by
  simp [State.closeChannel, h, State.returnBuffers_eq, State.channelClosed, State.setChan]

@[simp] theorem State.closeChannel_idle {s : State} (h : s.chan = none) : s.closeChannel = s := by
  simp [State.closeChannel, h]

/-! ### Requests in work -/

/-- R133: a sector counted. -/
theorem State.countSector_eq (s : State) (t : Tag) : s.countSector t = s.withSectorDone t := by
  simp only [State.countSector, State.withSectorDone, State.modRequest]
  congr 1

/-- R74: a retry spent. -/
theorem State.spendRetry_eq (s : State) (t : Tag) :
    s.modRequest t Request.spendRetry = { s with table := retrySpent t s.table } := by
  simp [State.modRequest, retrySpent, Request.spendRetry]

/-- R9: the address at an index is that many successors on. -/
theorem Geometry.addressAt_eq (g : Geometry) (a : Addr) (k : Nat) : g.addressAt a k = Nat.repeat g.successor k a := by
  induction k with
  | zero => rfl
  | succ k ih => rw [Geometry.addressAt, ih, Nat.repeat]

theorem State.runAddress_eq (s : State) (r : Request) (k : Nat) : s.runAddress r k = s.addressOfIndex r k := by
  cases h : (s.spindle r.spindle).geometry <;>
    simp [State.runAddress, State.addressOfIndex, h, Geometry.addressAt_eq]

/-- R124: the engagement. -/
theorem State.engage_eq (s : State) (r : Request) : s.engage r = s.engaged r := by
  cases h : r.kind <;> simp [State.engage, State.engaged, State.modRequest, State.setChan, engagementOf, h]

/-- R113: a candidate. -/
theorem State.candidate_eq (s : State) (r : Request) : s.candidate r = true ↔ s.IsCandidate r := by
  unfold State.candidate State.IsCandidate
  cases (s.spindle r.spindle).arm <;> simp [and_assoc]

/-- R97, R98: the DONE of a request. -/
theorem doneRecord_eq (r : Request) (o : Outcome) (cause : Option Cause) :
    StreamEntry.done (doneRecord r o cause) = doneOf r o cause (if o.failing then some r.next else none) := by
  simp [doneRecord, doneOf]

/-! ### What an event makes due -/

theorem Arm.isSettled_iff (a : Arm) : a.isSettled = true ↔ ∃ c, a = .settled c := by
  cases a <;> simp [Arm.isSettled]

/-- R149, R181: when the clearing step is due. -/
theorem stopDone_iff {b a : State} : stopDone b a = true ↔ StopCause b a := by
  rw [StopCause, stopDone, Bool.and_eq_true, Bool.and_eq_true, Bool.not_eq_true', ← Bool.not_eq_true, Bool.and_eq_true,
    Option.isNone_iff_eq_none, Option.isNone_iff_eq_none, and_assoc]

/-- R26, R35, R42: when the Spindle Manager's evaluations are due. -/
theorem budgetDue_iff {b a : State} : budgetDue b a = true ↔ BudgetCause b a := by
  have each (p : Port) : spindleBudgetCause b a p = true ↔
      ((p ∈ a.waitList ∧ p ∉ b.waitList) ∨ ((b.spindle p).state = .spinningUp ∧ (a.spindle p).state ≠ .spinningUp) ∨
        ((b.spindle p).state.spinning = true ∧ (a.spindle p).state.spinning = false) ∨
        ((b.spindle p).state ≠ .parked ∧ (a.spindle p).state = .parked) ∨
        ((b.spindle p).arm.timer ≠ none ∧ ∃ c, (a.spindle p).arm = .settled c) ∨
        ((a.spindle p).state = .ready ∧ b.requestCount p ≠ 0 ∧ a.requestCount p = 0)) := by
    simp [spindleBudgetCause, Arm.isSettled_iff, Option.isSome_iff_ne_none, or_assoc, and_assoc,
      and_comm (a := (a.spindle p).state = .parked)]
  simp only [budgetDue, BudgetCause, List.any_eq_true, mem_allPorts, true_and, Bool.or_eq_true, each, bne_iff_ne, decide_eq_true_eq,
    or_assoc]

/-- R106: when the Scheduler's re-evaluation is due. -/
theorem scheduleDue_iff {b a : State} : scheduleDue b a = true ↔ ScheduleCause b a := by
  have overdue : (a.overdueTags.any fun t => !b.overdueTags.contains t) = true ↔
      ∃ r ∈ a.table, r.overdue = true ∧ ∀ q ∈ b.table, q.tag = r.tag → q.overdue = false := by
    simp only [State.overdueTags, List.any_eq_true, List.mem_map, List.mem_filter, Bool.not_eq_true', List.contains_eq_mem,
      decide_eq_false_iff_not]
    constructor
    · rintro ⟨_, ⟨r, ⟨hr, ho⟩, rfl⟩, hn⟩
      exact ⟨r, hr, ho, fun q hq ht => Bool.eq_false_iff.2 fun hqo => hn ⟨q, ⟨hq, hqo⟩, ht⟩⟩
    · rintro ⟨r, hr, ho, hn⟩
      exact ⟨_, ⟨r, ⟨hr, ho⟩, rfl⟩, fun ⟨q, ⟨hq, hqo⟩, ht⟩ => Bool.eq_false_iff.1 (hn q hq ht) hqo⟩
  have gone : (b.admissionList.any fun t => !a.admissionList.contains t) = true ↔
      ∃ q ∈ b.table, ∀ r ∈ a.table, r.tag ≠ q.tag := by
    simp [State.admissionList]
  have settled (p : Port) : ((b.spindle p).arm.isSettled != (a.spindle p).arm.isSettled) = true ↔
      ¬ ((∃ c, (b.spindle p).arm = .settled c) ↔ ∃ c, (a.spindle p).arm = .settled c) := by
    rw [← Arm.isSettled_iff, ← Arm.isSettled_iff, bne_iff_ne, ne_eq, Bool.eq_iff_iff]
  have ports : allPorts.any (spindleScheduleCause b a) = true ↔ ∃ p : Port,
      (b.spindle p).state ≠ (a.spindle p).state ∨
      ¬ ((∃ c, (b.spindle p).arm = .settled c) ↔ ∃ c, (a.spindle p).arm = .settled c) ∨
      ((b.spindle p).tracker.tracked ≠ (a.spindle p).tracker.tracked ∧ (a.spindle p).state = .ready) := by
    simp only [spindleScheduleCause, List.any_eq_true, mem_allPorts, true_and, Bool.or_eq_true, Bool.and_eq_true, settled, bne_iff_ne,
      beq_iff_eq, or_assoc]
  simp only [scheduleDue, ScheduleCause, Bool.or_eq_true, overdue, gone, ports, bne_iff_ne, Bool.and_eq_true, Bool.not_eq_true',
    Option.isSome_iff_ne_none, Option.isNone_iff_eq_none, or_assoc, State.queuedTags]

/-! ### Cut-short writes -/

/-- R12, R13, R147, R150: what a cut-short write leaves of the media. -/
theorem State.tearSector_leaves (s : State) : s.TearLeaves s.tearSector := by
  refine ⟨fun h => ?_, fun e w0 slot b h hp => ?_, fun e h hp => ?_⟩
  · unfold State.writeGate at h
    unfold State.tearSector
    split at h
    · simp [*]
    · split at h <;> simp_all
  · simp only [State.tearSector, h, hp, Engagement.place, true_and]
    intro k
    rw [mediaRead_write]
    by_cases hk : k = placeKey e.spindle e.target.cylinder e.surface slot
    · subst hk; simp [Region.start, sectorLayout, Region.length]
    · rw [if_neg (Ne.symm hk), if_neg hk]
  · simp only [State.tearSector, h, hp, Engagement.place, true_and]
    intro k
    rw [mediaRead_write]
    by_cases hk : k = placeKey e.spindle e.target.cylinder e.surface e.index
    · subst hk; simp [Region.start, sectorLayout]
    · rw [if_neg (Ne.symm hk), if_neg hk]

/-! ### Conditions -/

/-- R169: when a command at the head of the line can be handled. -/
theorem State.canHandle_iff (s : State) (i : Instr) :
    s.canHandle i = true ↔
      s.inReset = false ∧ s.inbound.head?.map decodeFrame = some i ∧ s.restart = none ∧ s.replies.length < Config.replyRoom ∧
        s.streamDones < Config.doneRoom := by
  simp [State.canHandle, and_assoc]

end Sys2Proof.Machine
end

