-- ==== Sys2Proof/Laws/Static.lean ====
section
/-! SUPPORT. Spindle records and the operations: those that leave every spindle's records alone, and, of the others, that they
leave every geometry and every line level alone. -/

namespace Sys2Proof.Machine

@[simp] theorem State.setTable_spindle (s : State) (x : List Request) (j : Port) :
    (s.setTable x).spindle j = s.spindle j := State.spindle_congr (by simp) j

@[simp] theorem State.setStream_spindle (s : State) (x : List StreamEntry) (j : Port) :
    (s.setStream x).spindle j = s.spindle j := State.spindle_congr (by simp) j

@[simp] theorem State.setWaitList_spindle (s : State) (x : List Port) (j : Port) :
    (s.setWaitList x).spindle j = s.spindle j := State.spindle_congr (by simp) j

@[simp] theorem State.setActivity_spindle (s : State) (x : List Port) (j : Port) :
    (s.setActivity x).spindle j = s.spindle j := State.spindle_congr (by simp) j

@[simp] theorem State.setChan_spindle (s : State) (x : Option Engagement) (j : Port) :
    (s.setChan x).spindle j = s.spindle j := State.spindle_congr (by simp) j

@[simp] theorem State.setFree_spindle (s : State) (x : Nat) (j : Port) :
    (s.setFree x).spindle j = s.spindle j := State.spindle_congr (by simp) j

@[simp] theorem State.setLine_spindle (s : State) (x : Option OutFrame) (j : Port) :
    (s.setLine x).spindle j = s.spindle j := State.spindle_congr (by simp) j

@[simp] theorem State.setReplies_spindle (s : State) (x : List Reply) (j : Port) :
    (s.setReplies x).spindle j = s.spindle j := State.spindle_congr (by simp) j

@[simp] theorem State.setEvents_spindle (s : State) (x : List EventRecord) (j : Port) :
    (s.setEvents x).spindle j = s.spindle j := State.spindle_congr (by simp) j

@[simp] theorem State.setNotice_spindle (s : State) (x : Notice) (j : Port) :
    (s.setNotice x).spindle j = s.spindle j := State.spindle_congr (by simp) j

@[simp] theorem State.endRestart_spindle (s : State) (j : Port) :
    (s.endRestart).spindle j = s.spindle j := State.spindle_congr (by simp) j

@[simp] theorem State.beginRestart_spindle (s : State) (x : Byte) (j : Port) :
    (s.beginRestart x).spindle j = s.spindle j := State.spindle_congr (by simp) j

@[simp] theorem State.modRequest_spindle (s : State) (t : Tag) (f : Request → Request) (j : Port) :
    (s.modRequest t f).spindle j = s.spindle j := State.spindle_congr (by simp) j

@[simp] theorem State.evalSpindleHold_spindle (s : State) (p : Port) (j : Port) :
    (s.evalSpindleHold p).spindle j = s.spindle j := State.spindle_congr (by simp) j

@[simp] theorem State.evalBarriers_spindle (s : State) (p : Port) (j : Port) :
    (s.evalBarriers p).spindle j = s.spindle j := State.spindle_congr (by simp) j

@[simp] theorem State.liftNoBuffer_spindle (s : State) (j : Port) :
    (s.liftNoBuffer).spindle j = s.spindle j := State.spindle_congr (by simp) j

@[simp] theorem State.post_spindle (s : State) (p : Port) (k : EventSet) (j : Port) :
    (s.post p k).spindle j = s.spindle j := State.spindle_congr (by simp) j

@[simp] theorem State.touchActivity_spindle (s : State) (p : Port) (j : Port) :
    (s.touchActivity p).spindle j = s.spindle j := State.spindle_congr (by simp) j

@[simp] theorem State.clockTo_spindle (s : State) (n : Nat) (j : Port) :
    (s.clockTo n).spindle j = s.spindle j := State.spindle_congr (by simp) j

@[simp] theorem State.modChan_spindle (s : State) (f : Engagement → Engagement) (j : Port) :
    (s.modChan f).spindle j = s.spindle j := State.spindle_congr (by simp) j

@[simp] theorem State.engage_spindle (s : State) (r : Request) (j : Port) :
    (s.engage r).spindle j = s.spindle j := State.spindle_congr (by simp) j

@[simp] theorem State.pushReply_spindle (s : State) (k q : Byte) (c : Code) (b : List Byte) (j : Port) :
    (s.pushReply k q c b).spindle j = s.spindle j := State.spindle_congr (by simp) j

@[simp] theorem State.popInbound_spindle (s : State) (j : Port) :
    (s.popInbound).spindle j = s.spindle j := State.spindle_congr (by simp) j

@[simp] theorem State.transmit_spindle (s : State) (k : Byte) (b : List Byte) (h : Bool) (j : Port) :
    (s.transmit k b h).spindle j = s.spindle j := State.spindle_congr (by simp) j

@[simp] theorem State.countSector_spindle (s : State) (t : Tag) (j : Port) :
    (s.countSector t).spindle j = s.spindle j := State.spindle_congr (by simp) j

@[simp] theorem State.writeFormatSlot_spindle (s : State) (e : Engagement) (j : Port) :
    (s.writeFormatSlot e).spindle j = s.spindle j := State.spindle_congr (by simp) j

@[simp] theorem State.headSwitch_spindle (s : State) (a : Addr) (j : Port) :
    (s.headSwitch a).spindle j = s.spindle j := State.spindle_congr (by simp) j

@[simp] theorem State.beginPass_spindle (s : State) (x : PendingEntry) (d : Ending) (j : Port) :
    (s.beginPass x d).spindle j = s.spindle j := State.spindle_congr (by simp) j

@[simp] theorem State.putParam_spindle (s : State) (n : ParamId) (v : Nat) (j : Port) :
    (s.putParam n v).spindle j = s.spindle j := State.spindle_congr (by simp) j

@[simp] theorem State.retimeAll_spindle (s : State) (n : Nat) (j : Port) :
    (s.retimeAll n).spindle j = s.spindle j := State.spindle_congr (by simp) j

@[simp] theorem State.stage_spindle (s : State) (t : Tag) (n : Nat) (b : List Byte) (j : Port) :
    (s.stage t n b).spindle j = s.spindle j := State.spindle_congr (by simp) j

@[simp] theorem State.setParser_spindle (s : State) (x : Parser) (j : Port) :
    (s.setParser x).spindle j = s.spindle j := State.spindle_congr (by simp) j

@[simp] theorem State.noteOverrun_spindle (s : State) (j : Port) :
    (s.noteOverrun).spindle j = s.spindle j := State.spindle_congr (by simp) j

@[simp] theorem State.noteCheckFailure_spindle (s : State) (j : Port) :
    (s.noteCheckFailure).spindle j = s.spindle j := State.spindle_congr (by simp) j

@[simp] theorem State.noteLengthError_spindle (s : State) (j : Port) :
    (s.noteLengthError).spindle j = s.spindle j := State.spindle_congr (by simp) j

@[simp] theorem State.noteGapTimeout_spindle (s : State) (j : Port) :
    (s.noteGapTimeout).spindle j = s.spindle j := State.spindle_congr (by simp) j

@[simp] theorem State.pushInbound_spindle (s : State) (f : Frame) (j : Port) :
    (s.pushInbound f).spindle j = s.spindle j := State.spindle_congr (by simp) j

@[simp] theorem State.assertReset_spindle (s : State) (j : Port) :
    (s.assertReset).spindle j = s.spindle j := State.spindle_congr (by simp) j

@[simp] theorem State.slotRead_spindle (s : State) (j : Port) :
    s.slotRead.spindle j = s.spindle j := State.spindle_congr (by simp) j

@[simp] theorem State.noteJudged_spindle (s : State) (b : Bool) (j : Port) :
    (s.noteJudged b).spindle j = s.spindle j := State.spindle_congr (by simp) j

@[simp] theorem State.setPhase_spindle (s : State) (h : Phase) (j : Port) :
    (s.setPhase h).spindle j = s.spindle j := State.spindle_congr (by simp) j

@[simp] theorem State.deliver_spindle (s : State) (e : Engagement) (d : List Word) (x : Bool) (j : Port) :
    (s.deliver e d x).spindle j = s.spindle j := State.spindle_congr (by simp) j

@[simp] theorem State.writeSector_spindle (s : State) (e : Engagement) (w : Word) (n : Nat) (b : Buffer) (j : Port) :
    (s.writeSector e w n b).spindle j = s.spindle j := State.spindle_congr (by simp) j

@[simp] theorem State.pendSector_spindle (s : State) (e : Engagement) (w : Word) (b : Buffer) (j : Port) :
    (s.pendSector e w b).spindle j = s.spindle j := State.spindle_congr (by simp) j

@[simp] theorem State.tick_spindle (s : State) (j : Port) :
    (s.tick).spindle j = s.spindle j := State.spindle_congr (by simp) j

@[simp] theorem State.returnBuffers_spindle (s : State) (n : Nat) (j : Port) :
    (s.returnBuffers n).spindle j = s.spindle j := State.spindle_congr (by simp) j

@[simp] theorem State.closeChannel_spindle (s : State) (j : Port) :
    (s.closeChannel).spindle j = s.spindle j := State.spindle_congr (by simp) j

@[simp] theorem State.tearSector_spindle (s : State) (j : Port) :
    (s.tearSector).spindle j = s.spindle j := State.spindle_congr (by simp) j

@[simp] theorem State.countWholeSlot_spindle (s : State) (j : Port) :
    (s.countWholeSlot).spindle j = s.spindle j := State.spindle_congr (by simp) j

@[simp] theorem State.abortChannel_spindle (s : State) (p : Port) (j : Port) :
    (s.abortChannel p).spindle j = s.spindle j := State.spindle_congr (by simp) j

@[simp] theorem State.disengage_spindle (s : State) (t : Tag) (j : Port) :
    (s.disengage t).spindle j = s.spindle j := State.spindle_congr (by simp) j

@[simp] theorem State.chooseChannel_spindle (s : State) (j : Port) :
    (s.chooseChannel).spindle j = s.spindle j := State.spindle_congr (by simp) j

@[simp] theorem State.flushOutbound_spindle (s : State) (j : Port) :
    (s.flushOutbound).spindle j = s.spindle j := State.spindle_congr (by simp) j

@[simp] theorem State.arbitrate_spindle (s : State) (j : Port) :
    (s.arbitrate).spindle j = s.spindle j := State.spindle_congr (by simp) j

@[simp] theorem State.stopChannel_spindle (s : State) (j : Port) :
    (s.stopChannel).spindle j = s.spindle j := State.spindle_congr (by simp) j

@[simp] theorem State.stopNow_spindle (s : State) (j : Port) :
    (s.stopNow).spindle j = s.spindle j := State.spindle_congr (by simp) j

@[simp] theorem State.takeRestart_spindle (s : State) (q : Byte) (j : Port) :
    (s.takeRestart q).spindle j = s.spindle j := State.spindle_congr (by simp) j

@[simp] theorem State.beginFrame_spindle (s : State) (j : Port) :
    (s.beginFrame).spindle j = s.spindle j := State.spindle_congr (by simp) j

@[simp] theorem State.endFrame_spindle (s : State) (k q : Byte) (b : List Byte) (c : Half) (j : Port) :
    (s.endFrame k q b c).spindle j = s.spindle j := State.spindle_congr (by simp) j

@[simp] theorem State.breakLength_spindle (s : State) (n : Half) (j : Port) :
    (s.breakLength n).spindle j = s.spindle j := State.spindle_congr (by simp) j

@[simp] theorem State.breakGap_spindle (s : State) (j : Port) :
    (s.breakGap).spindle j = s.spindle j := State.spindle_congr (by simp) j

@[simp] theorem State.endTransmission_spindle (s : State) (j : Port) :
    (s.endTransmission).spindle j = s.spindle j := State.spindle_congr (by simp) j

@[simp] theorem State.postConfigured_spindle (s : State) (p : Port) (k : EventSet) (j : Port) :
    (s.postConfigured p k).spindle j = s.spindle j := State.spindle_congr (by simp) j

@[simp] theorem State.reportTracked_spindle (s : State) (p : Port) (j : Port) :
    (s.reportTracked p).spindle j = s.spindle j := State.spindle_congr (by simp) j

@[simp] theorem State.deliverRead_spindle (s : State) (e : Engagement) (d : List Word) (x : Bool) (j : Port) :
    (s.deliverRead e d x).spindle j = s.spindle j := State.spindle_congr (by simp) j

@[simp] theorem State.countWritten_spindle (s : State) (e : Engagement) (j : Port) :
    (s.countWritten e).spindle j = s.spindle j := State.spindle_congr (by simp) j

@[simp] theorem State.ageTimeout_spindle (s : State) (t : Tag) (j : Port) :
    (s.ageTimeout t).spindle j = s.spindle j := State.spindle_congr (by simp) j

/-- A spindle's geometry and levels after an update. -/
theorem State.modSpindle_geometry (s : State) (p : Port) (f : Spindle → Spindle) (j : Port) :
    ((s.modSpindle p f).spindle j).geometry = if p = j then (f (s.spindle j)).geometry else (s.spindle j).geometry := by
  rw [State.spindle_modSpindle]
  split <;> rfl

theorem State.modSpindle_lines (s : State) (p : Port) (f : Spindle → Spindle) (j : Port) :
    ((s.modSpindle p f).spindle j).lines = if p = j then (f (s.spindle j)).lines else (s.spindle j).lines := by
  rw [State.spindle_modSpindle]
  split <;> rfl

@[simp] theorem State.clearOwner_static (s : State) (p : Port) (t : Tag) (j : Port) :
    ((s.clearOwner p t).spindle j).geometry = (s.spindle j).geometry ∧
    ((s.clearOwner p t).spindle j).lines = (s.spindle j).lines := by
  simp [State.clearOwner, State.modSpindle_geometry, State.modSpindle_lines]

@[simp] theorem State.issueSeek_static (s : State) (p : Port) (c : Nat) (t : Tag) (j : Port) :
    ((s.issueSeek p c t).spindle j).geometry = (s.spindle j).geometry ∧
    ((s.issueSeek p c t).spindle j).lines = (s.spindle j).lines := by
  simp [State.issueSeek, State.modSpindle_geometry, State.modSpindle_lines]

@[simp] theorem State.restartSpindle_static (s : State) (p : Port) (j : Port) :
    ((s.restartSpindle p).spindle j).geometry = (s.spindle j).geometry ∧
    ((s.restartSpindle p).spindle j).lines = (s.spindle j).lines := by
  simp only [State.restartSpindle, State.modSpindle_geometry, State.modSpindle_lines]
  constructor <;> (repeat' split) <;> simp_all

@[simp] theorem State.orphanSeek_static (s : State) (p : Port) (j : Port) :
    ((s.orphanSeek p).spindle j).geometry = (s.spindle j).geometry ∧
    ((s.orphanSeek p).spindle j).lines = (s.spindle j).lines := by
  simp [State.orphanSeek, State.modSpindle_geometry, State.modSpindle_lines]

@[simp] theorem State.setArm_static (s : State) (p : Port) (a : Arm) (j : Port) :
    ((s.setArm p a).spindle j).geometry = (s.spindle j).geometry ∧
    ((s.setArm p a).spindle j).lines = (s.spindle j).lines := by
  simp [State.setArm, State.modSpindle_geometry, State.modSpindle_lines]

@[simp] theorem State.modTracker_static (s : State) (p : Port) (f : Tracker → Tracker) (j : Port) :
    ((s.modTracker p f).spindle j).geometry = (s.spindle j).geometry ∧
    ((s.modTracker p f).spindle j).lines = (s.spindle j).lines := by
  simp [State.modTracker, State.modSpindle_geometry, State.modSpindle_lines]

@[simp] theorem State.pin_static (s : State) (p : Port) (j : Port) :
    ((s.pin p).spindle j).geometry = (s.spindle j).geometry ∧
    ((s.pin p).spindle j).lines = (s.spindle j).lines := by
  simp [State.pin, State.modSpindle_geometry, State.modSpindle_lines]

@[simp] theorem State.unpin_static (s : State) (p : Port) (j : Port) :
    ((s.unpin p).spindle j).geometry = (s.spindle j).geometry ∧
    ((s.unpin p).spindle j).lines = (s.spindle j).lines := by
  simp [State.unpin, State.modSpindle_geometry, State.modSpindle_lines]

@[simp] theorem State.startIdle_static (s : State) (p : Port) (j : Port) :
    ((s.startIdle p).spindle j).geometry = (s.spindle j).geometry ∧
    ((s.startIdle p).spindle j).lines = (s.spindle j).lines := by
  unfold State.startIdle
  try dsimp only
  repeat' (first | (simp [State.modSpindle_geometry, State.modSpindle_lines]; done) | split)

@[simp] theorem State.complete_static (s : State) (t : Tag) (o : Outcome) (c : Option Cause) (j : Port) :
    ((s.complete t o c).spindle j).geometry = (s.spindle j).geometry ∧
    ((s.complete t o c).spindle j).lines = (s.spindle j).lines := by
  unfold State.complete
  try dsimp only
  repeat' (first | (simp; done) | split)

@[simp] theorem State.completeAll_static (s : State) (p : Port) (o : Outcome) (c : Option Cause) (j : Port) :
    ((s.completeAll p o c).spindle j).geometry = (s.spindle j).geometry ∧
    ((s.completeAll p o c).spindle j).lines = (s.spindle j).lines := by
  constructor
  · simp [State.completeAll, foldl_keeps (fun u => (u.spindle j).geometry)]
  · simp [State.completeAll, foldl_keeps (fun u => (u.spindle j).lines)]

@[simp] theorem State.enterState_static (s : State) (p : Port) (x : SpindleState) (j : Port) :
    ((s.enterState p x).spindle j).geometry = (s.spindle j).geometry ∧
    ((s.enterState p x).spindle j).lines = (s.spindle j).lines := by
  unfold State.enterState
  try dsimp only
  repeat' (first | (simp [State.modSpindle_geometry, State.modSpindle_lines, Spindle.enter]; done) | split)

@[simp] theorem State.joinWait_static (s : State) (p : Port) (j : Port) :
    ((s.joinWait p).spindle j).geometry = (s.spindle j).geometry ∧
    ((s.joinWait p).spindle j).lines = (s.spindle j).lines := by
  unfold State.joinWait
  try dsimp only
  simp

@[simp] theorem State.issueRestore_static (s : State) (p : Port) (j : Port) :
    ((s.issueRestore p).spindle j).geometry = (s.spindle j).geometry ∧
    ((s.issueRestore p).spindle j).lines = (s.spindle j).lines := by
  unfold State.issueRestore
  try dsimp only
  repeat' split
  all_goals simp [State.modSpindle_geometry, State.modSpindle_lines]

@[simp] theorem State.endSpinDown_static (s : State) (p : Port) (j : Port) :
    ((s.endSpinDown p).spindle j).geometry = (s.spindle j).geometry ∧
    ((s.endSpinDown p).spindle j).lines = (s.spindle j).lines := by
  unfold State.endSpinDown
  try dsimp only
  repeat' split
  all_goals simp [State.modSpindle_geometry, State.modSpindle_lines]

@[simp] theorem State.enterSpinningDown_static (s : State) (p : Port) (j : Port) :
    ((s.enterSpinningDown p).spindle j).geometry = (s.spindle j).geometry ∧
    ((s.enterSpinningDown p).spindle j).lines = (s.spindle j).lines := by
  unfold State.enterSpinningDown
  try dsimp only
  repeat' split
  all_goals simp [State.modSpindle_geometry, State.modSpindle_lines]

@[simp] theorem State.enterFaulted_static (s : State) (p : Port) (c : Cause) (j : Port) :
    ((s.enterFaulted p c).spindle j).geometry = (s.spindle j).geometry ∧
    ((s.enterFaulted p c).spindle j).lines = (s.spindle j).lines := by
  unfold State.enterFaulted
  try dsimp only
  simp [State.modSpindle_geometry, State.modSpindle_lines]

@[simp] theorem State.enterAbsent_static (s : State) (p : Port) (j : Port) :
    ((s.enterAbsent p).spindle j).geometry = (s.spindle j).geometry ∧
    ((s.enterAbsent p).spindle j).lines = (s.spindle j).lines := by
  unfold State.enterAbsent
  try dsimp only
  simp [State.modSpindle_geometry, State.modSpindle_lines]

@[simp] theorem State.startHead_static (s : State) (j : Port) :
    ((s.startHead).spindle j).geometry = (s.spindle j).geometry ∧
    ((s.startHead).spindle j).lines = (s.spindle j).lines := by
  unfold State.startHead
  try dsimp only
  repeat' split
  all_goals simp [State.modSpindle_geometry, State.modSpindle_lines]

@[simp] theorem State.budgetRounds_static (n : Nat) (s : State) (j : Port) :
    ((State.budgetRounds n s).spindle j).geometry = (s.spindle j).geometry ∧
    ((State.budgetRounds n s).spindle j).lines = (s.spindle j).lines := by
  induction n generalizing s with
  | zero => exact ⟨rfl, rfl⟩
  | succ n ih =>
    simp only [State.budgetRounds]
    split
    · simp [ih]
    · split <;> simp [ih]

@[simp] theorem State.evalBudget_static (s : State) (j : Port) :
    ((s.evalBudget).spindle j).geometry = (s.spindle j).geometry ∧
    ((s.evalBudget).spindle j).lines = (s.spindle j).lines := by
  unfold State.evalBudget
  try dsimp only
  simp

@[simp] theorem State.registerDemand_static (s : State) (p : Port) (j : Port) :
    ((s.registerDemand p).spindle j).geometry = (s.spindle j).geometry ∧
    ((s.registerDemand p).spindle j).lines = (s.spindle j).lines := by
  unfold State.registerDemand
  try dsimp only
  repeat' split
  all_goals simp [State.modSpindle_geometry, State.modSpindle_lines]

@[simp] theorem State.chooseSeek_static (s : State) (p : Port) (j : Port) :
    ((s.chooseSeek p).spindle j).geometry = (s.spindle j).geometry ∧
    ((s.chooseSeek p).spindle j).lines = (s.spindle j).lines := by
  unfold State.chooseSeek
  try dsimp only
  repeat' split
  all_goals simp

@[simp] theorem State.reevaluate_static (s : State) (j : Port) :
    ((s.reevaluate).spindle j).geometry = (s.spindle j).geometry ∧
    ((s.reevaluate).spindle j).lines = (s.spindle j).lines := by
  unfold State.reevaluate
  split
  · exact ⟨rfl, rfl⟩
  · constructor
    · simp [foldl_keeps (fun u => (u.spindle j).geometry)]
    · simp [foldl_keeps (fun u => (u.spindle j).lines)]

@[simp] theorem State.restartPark_static (s : State) (p : Port) (j : Port) :
    ((s.restartPark p).spindle j).geometry = (s.spindle j).geometry ∧
    ((s.restartPark p).spindle j).lines = (s.spindle j).lines := by
  unfold State.restartPark
  try dsimp only
  repeat' split
  all_goals simp

@[simp] theorem State.removeRequests_static (s : State) (j : Port) :
    ((s.removeRequests).spindle j).geometry = (s.spindle j).geometry ∧
    ((s.removeRequests).spindle j).lines = (s.spindle j).lines := by
  constructor
  · simp [State.removeRequests, foldl_keeps (fun u => (u.spindle j).geometry)]
  · simp [State.removeRequests, foldl_keeps (fun u => (u.spindle j).lines)]

@[simp] theorem State.restartSpindles_static (s : State) (l : List Port) (j : Port) :
    ((s.restartSpindles l).spindle j).geometry = (s.spindle j).geometry ∧
    ((s.restartSpindles l).spindle j).lines = (s.spindle j).lines := by
  constructor
  · simp [State.restartSpindles, foldl_keeps (fun u => (u.spindle j).geometry)]
  · simp [State.restartSpindles, foldl_keeps (fun u => (u.spindle j).lines)]

@[simp] theorem State.clearingStep_static (s : State) (l : List Port) (j : Port) :
    ((s.clearingStep l).spindle j).geometry = (s.spindle j).geometry ∧
    ((s.clearingStep l).spindle j).lines = (s.spindle j).lines := by
  unfold State.clearingStep
  try dsimp only
  simp

@[simp] theorem State.release_static (s : State) (t : Tag) (b : Bool) (j : Port) :
    ((s.release t b).spindle j).geometry = (s.spindle j).geometry ∧
    ((s.release t b).spindle j).lines = (s.spindle j).lines := by
  unfold State.release
  try dsimp only
  repeat' split
  all_goals simp

@[simp] theorem State.completeRun_static (s : State) (t : Tag) (j : Port) :
    ((s.completeRun t).spindle j).geometry = (s.spindle j).geometry ∧
    ((s.completeRun t).spindle j).lines = (s.spindle j).lines := by
  unfold State.completeRun
  try dsimp only
  repeat' split
  all_goals simp

@[simp] theorem State.armLost_static (s : State) (p : Port) (j : Port) :
    ((s.armLost p).spindle j).geometry = (s.spindle j).geometry ∧
    ((s.armLost p).spindle j).lines = (s.spindle j).lines := by
  unfold State.armLost
  try dsimp only
  simp [State.modSpindle_geometry, State.modSpindle_lines]

@[simp] theorem State.positionError_static (s : State) (e : Engagement) (j : Port) :
    ((s.positionError e).spindle j).geometry = (s.spindle j).geometry ∧
    ((s.positionError e).spindle j).lines = (s.spindle j).lines := by
  unfold State.positionError
  try dsimp only
  repeat' split
  all_goals simp

@[simp] theorem State.carryOut_static (s : State) (e : Engagement) (d : Ending) (j : Port) :
    ((s.carryOut e d).spindle j).geometry = (s.spindle j).geometry ∧
    ((s.carryOut e d).spindle j).lines = (s.spindle j).lines := by
  unfold State.carryOut
  try dsimp only
  repeat' split
  all_goals simp

@[simp] theorem State.endWith_static (s : State) (d : Ending) (j : Port) :
    ((s.endWith d).spindle j).geometry = (s.spindle j).geometry ∧
    ((s.endWith d).spindle j).lines = (s.spindle j).lines := by
  unfold State.endWith
  try dsimp only
  repeat' split
  all_goals simp

@[simp] theorem State.afterSector_static (s : State) (b : Bool) (j : Port) :
    ((s.afterSector b).spindle j).geometry = (s.spindle j).geometry ∧
    ((s.afterSector b).spindle j).lines = (s.spindle j).lines := by
  unfold State.afterSector
  try dsimp only
  repeat' (first | (simp; done) | split)

@[simp] theorem State.searchFailed_static (s : State) (j : Port) :
    ((s.searchFailed).spindle j).geometry = (s.spindle j).geometry ∧
    ((s.searchFailed).spindle j).lines = (s.spindle j).lines := by
  unfold State.searchFailed
  try dsimp only
  repeat' split
  all_goals simp

@[simp] theorem State.passPositionError_static (s : State) (e : Engagement) (j : Port) :
    ((s.passPositionError e).spindle j).geometry = (s.spindle j).geometry ∧
    ((s.passPositionError e).spindle j).lines = (s.spindle j).lines := by
  unfold State.passPositionError
  try dsimp only
  simp

@[simp] theorem State.cancelNow_static (s : State) (t : Tag) (j : Port) :
    ((s.cancelNow t).spindle j).geometry = (s.spindle j).geometry ∧
    ((s.cancelNow t).spindle j).lines = (s.spindle j).lines := by
  unfold State.cancelNow
  try dsimp only
  repeat' split
  all_goals simp

@[simp] theorem State.formatSlotEnd_static (s : State) (b : Bool) (j : Port) :
    ((s.formatSlotEnd b).spindle j).geometry = (s.spindle j).geometry ∧
    ((s.formatSlotEnd b).spindle j).lines = (s.spindle j).lines := by
  unfold State.formatSlotEnd
  try dsimp only
  repeat' (first | (simp; done) | split)

@[simp] theorem State.capErrors_static (s : State) (n : Nat) (j : Port) :
    ((s.capErrors n).spindle j).geometry = (s.spindle j).geometry ∧
    ((s.capErrors n).spindle j).lines = (s.spindle j).lines := by
  constructor
  · simp [State.capErrors, foldl_keeps (fun u => (u.spindle j).geometry), State.modSpindle_geometry]
  · simp [State.capErrors, foldl_keeps (fun u => (u.spindle j).lines), State.modSpindle_lines]

@[simp] theorem State.applyParam_static (s : State) (i : ParamId) (v : Nat) (j : Port) :
    ((s.applyParam i v).spindle j).geometry = (s.spindle j).geometry ∧
    ((s.applyParam i v).spindle j).lines = (s.spindle j).lines := by
  unfold State.applyParam
  try dsimp only
  repeat' split
  all_goals simp

@[simp] theorem State.admitRequest_static (s : State) (m : SubmitRequest) (j : Port) :
    ((s.admitRequest m).spindle j).geometry = (s.spindle j).geometry ∧
    ((s.admitRequest m).spindle j).lines = (s.spindle j).lines := by
  unfold State.admitRequest
  try dsimp only
  simp

@[simp] theorem State.cancel_static (s : State) (r : Request) (j : Port) :
    ((s.cancel r).spindle j).geometry = (s.spindle j).geometry ∧
    ((s.cancel r).spindle j).lines = (s.spindle j).lines := by
  unfold State.cancel
  try dsimp only
  repeat' split
  all_goals simp

@[simp] theorem State.clearFault_static (s : State) (p : Port) (j : Port) :
    ((s.clearFault p).spindle j).geometry = (s.spindle j).geometry ∧
    ((s.clearFault p).spindle j).lines = (s.spindle j).lines := by
  unfold State.clearFault
  try dsimp only
  simp [State.modSpindle_geometry, State.modSpindle_lines]

@[simp] theorem State.spunChange_static (s : State) (p : Port) (b : Bool) (j : Port) :
    ((s.spunChange p b).spindle j).geometry = (s.spindle j).geometry ∧
    ((s.spunChange p b).spindle j).lines = (s.spindle j).lines := by
  unfold State.spunChange
  try dsimp only
  repeat' split
  all_goals simp

@[simp] theorem State.unitFault_static (s : State) (p : Port) (j : Port) :
    ((s.unitFault p).spindle j).geometry = (s.spindle j).geometry ∧
    ((s.unitFault p).spindle j).lines = (s.spindle j).lines := by
  unfold State.unitFault
  try dsimp only
  repeat' split
  all_goals simp

@[simp] theorem State.reportThreshold_static (s : State) (p : Port) (j : Port) :
    ((s.reportThreshold p).spindle j).geometry = (s.spindle j).geometry ∧
    ((s.reportThreshold p).spindle j).lines = (s.spindle j).lines := by
  unfold State.reportThreshold
  try dsimp only
  repeat' split
  all_goals simp

@[simp] theorem State.indexLost_static (s : State) (p : Port) (j : Port) :
    ((s.indexLost p).spindle j).geometry = (s.spindle j).geometry ∧
    ((s.indexLost p).spindle j).lines = (s.spindle j).lines := by
  unfold State.indexLost
  try dsimp only
  simp

@[simp] theorem State.shortRevolution_static (s : State) (p : Port) (j : Port) :
    ((s.shortRevolution p).spindle j).geometry = (s.spindle j).geometry ∧
    ((s.shortRevolution p).spindle j).lines = (s.spindle j).lines := by
  unfold State.shortRevolution
  try dsimp only
  simp

@[simp] theorem State.trackSector_static (s : State) (p : Port) (j : Port) :
    ((s.trackSector p).spindle j).geometry = (s.spindle j).geometry ∧
    ((s.trackSector p).spindle j).lines = (s.spindle j).lines := by
  unfold State.trackSector
  try dsimp only
  repeat' (first | (simp; done) | split)

@[simp] theorem State.enterReady_static (s : State) (p : Port) (j : Port) :
    ((s.enterReady p).spindle j).geometry = (s.spindle j).geometry ∧
    ((s.enterReady p).spindle j).lines = (s.spindle j).lines := by
  unfold State.enterReady
  try dsimp only
  simp

@[simp] theorem State.trackIndex_static (s : State) (p : Port) (j : Port) :
    ((s.trackIndex p).spindle j).geometry = (s.spindle j).geometry ∧
    ((s.trackIndex p).spindle j).lines = (s.spindle j).lines := by
  unfold State.trackIndex
  try dsimp only
  repeat' split
  all_goals simp

@[simp] theorem State.spindleIndex_static (s : State) (p : Port) (j : Port) :
    ((s.spindleIndex p).spindle j).geometry = (s.spindle j).geometry ∧
    ((s.spindleIndex p).spindle j).lines = (s.spindle j).lines := by
  unfold State.spindleIndex
  try dsimp only
  repeat' split
  all_goals simp

@[simp] theorem State.countedMark_static (s : State) (e : Engagement) (b : Bool) (j : Port) :
    ((s.countedMark e b).spindle j).geometry = (s.spindle j).geometry ∧
    ((s.countedMark e b).spindle j).lines = (s.spindle j).lines := by
  unfold State.countedMark
  try dsimp only
  repeat' split
  all_goals simp

@[simp] theorem State.formatIndex_static (s : State) (e : Engagement) (j : Port) :
    ((s.formatIndex e).spindle j).geometry = (s.spindle j).geometry ∧
    ((s.formatIndex e).spindle j).lines = (s.spindle j).lines := by
  unfold State.formatIndex
  try dsimp only
  repeat' split
  all_goals simp

@[simp] theorem State.channelMark_static (s : State) (p : Port) (b : Bool) (j : Port) :
    ((s.channelMark p b).spindle j).geometry = (s.spindle j).geometry ∧
    ((s.channelMark p b).spindle j).lines = (s.spindle j).lines := by
  unfold State.channelMark
  try dsimp only
  repeat' split
  all_goals simp

@[simp] theorem State.passOver_static (s : State) (e : Engagement) (j : Port) :
    ((s.passOver e).spindle j).geometry = (s.spindle j).geometry ∧
    ((s.passOver e).spindle j).lines = (s.spindle j).lines := by
  unfold State.passOver
  try dsimp only
  repeat' split
  all_goals simp

@[simp] theorem State.beginRead_static (s : State) (e : Engagement) (w : Word) (n : Nat) (j : Port) :
    ((s.beginRead e w n).spindle j).geometry = (s.spindle j).geometry ∧
    ((s.beginRead e w n).spindle j).lines = (s.spindle j).lines := by
  unfold State.beginRead
  try dsimp only
  repeat' split
  all_goals simp

@[simp] theorem State.beginWrite_static (s : State) (e : Engagement) (r : Request) (w : Word) (n : Nat) (j : Port) :
    ((s.beginWrite e r w n).spindle j).geometry = (s.spindle j).geometry ∧
    ((s.beginWrite e r w n).spindle j).lines = (s.spindle j).lines := by
  unfold State.beginWrite
  try dsimp only
  repeat' split
  all_goals simp

@[simp] theorem State.beginData_static (s : State) (e : Engagement) (w : Word) (n : Nat) (j : Port) :
    ((s.beginData e w n).spindle j).geometry = (s.spindle j).geometry ∧
    ((s.beginData e w n).spindle j).lines = (s.spindle j).lines := by
  unfold State.beginData
  try dsimp only
  repeat' split
  all_goals simp

@[simp] theorem State.searchHeader_static (s : State) (e : Engagement) (n : Nat) (h : Option (Word × Word × Word)) (j : Port) :
    ((s.searchHeader e n h).spindle j).geometry = (s.spindle j).geometry ∧
    ((s.searchHeader e n h).spindle j).lines = (s.spindle j).lines := by
  unfold State.searchHeader
  try dsimp only
  repeat' split
  all_goals simp

@[simp] theorem State.judgePass_static (s : State) (e : Engagement) (n : Nat) (h : Option (Word × Word × Word)) (j : Port) :
    ((s.judgePass e n h).spindle j).geometry = (s.spindle j).geometry ∧
    ((s.judgePass e n h).spindle j).lines = (s.spindle j).lines := by
  unfold State.judgePass
  try dsimp only
  repeat' split
  all_goals simp

@[simp] theorem State.passHeader_static (s : State) (e : Engagement) (n : Nat) (h : Option (Word × Word × Word)) (j : Port) :
    ((s.passHeader e n h).spindle j).geometry = (s.spindle j).geometry ∧
    ((s.passHeader e n h).spindle j).lines = (s.spindle j).lines := by
  unfold State.passHeader
  try dsimp only
  repeat' split
  all_goals simp

@[simp] theorem State.headerRead_static (s : State) (n : Nat) (x : HeaderRead) (j : Port) :
    ((s.headerRead n x).spindle j).geometry = (s.spindle j).geometry ∧
    ((s.headerRead n x).spindle j).lines = (s.spindle j).lines := by
  unfold State.headerRead
  try dsimp only
  repeat' split
  all_goals simp

@[simp] theorem State.sectorRead_static (s : State) (e : Engagement) (j : Port) :
    ((s.sectorRead e).spindle j).geometry = (s.spindle j).geometry ∧
    ((s.sectorRead e).spindle j).lines = (s.spindle j).lines := by
  unfold State.sectorRead
  try dsimp only
  simp

@[simp] theorem State.retrySector_static (s : State) (e : Engagement) (j : Port) :
    ((s.retrySector e).spindle j).geometry = (s.spindle j).geometry ∧
    ((s.retrySector e).spindle j).lines = (s.spindle j).lines := by
  unfold State.retrySector
  try dsimp only
  simp

@[simp] theorem State.readEnd_static (s : State) (e : Engagement) (r : Request) (w : Word) (x : List Word × Option Word) (j : Port) :
    ((s.readEnd e r w x).spindle j).geometry = (s.spindle j).geometry ∧
    ((s.readEnd e r w x).spindle j).lines = (s.spindle j).lines := by
  unfold State.readEnd
  try dsimp only
  repeat' (first | (simp; done) | split)

@[simp] theorem State.writeEnd_static (s : State) (e : Engagement) (r : Request) (w : Word) (n : Nat) (b : Buffer) (j : Port) :
    ((s.writeEnd e r w n b).spindle j).geometry = (s.spindle j).geometry ∧
    ((s.writeEnd e r w n b).spindle j).lines = (s.spindle j).lines := by
  unfold State.writeEnd
  try dsimp only
  repeat' split
  all_goals simp

@[simp] theorem State.cleanPass_static (s : State) (e : Engagement) (r : Request) (j : Port) :
    ((s.cleanPass e r).spindle j).geometry = (s.spindle j).geometry ∧
    ((s.cleanPass e r).spindle j).lines = (s.spindle j).lines := by
  unfold State.cleanPass
  try dsimp only
  repeat' split
  all_goals simp

@[simp] theorem State.entryGood_static (s : State) (e : Engagement) (l : List PendingEntry) (j : Port) :
    ((s.entryGood e l).spindle j).geometry = (s.spindle j).geometry ∧
    ((s.entryGood e l).spindle j).lines = (s.spindle j).lines := by
  unfold State.entryGood
  try dsimp only
  repeat' split
  all_goals simp

@[simp] theorem State.passEnd_static (s : State) (e : Engagement) (w : Word) (x : List Word × Option Word) (j : Port) :
    ((s.passEnd e w x).spindle j).geometry = (s.spindle j).geometry ∧
    ((s.passEnd e w x).spindle j).lines = (s.spindle j).lines := by
  unfold State.passEnd
  try dsimp only
  repeat' split
  all_goals simp

@[simp] theorem State.dataFieldEnd_static (s : State) (x : FieldRead) (j : Port) :
    ((s.dataFieldEnd x).spindle j).geometry = (s.spindle j).geometry ∧
    ((s.dataFieldEnd x).spindle j).lines = (s.spindle j).lines := by
  unfold State.dataFieldEnd
  try dsimp only
  repeat' split
  all_goals simp

@[simp] theorem State.formatSlotWritten_static (s : State) (j : Port) :
    ((s.formatSlotWritten).spindle j).geometry = (s.spindle j).geometry ∧
    ((s.formatSlotWritten).spindle j).lines = (s.spindle j).lines := by
  unfold State.formatSlotWritten
  try dsimp only
  repeat' split
  all_goals simp

@[simp] theorem State.motionDone_static (s : State) (p : Port) (j : Port) :
    ((s.motionDone p).spindle j).geometry = (s.spindle j).geometry ∧
    ((s.motionDone p).spindle j).lines = (s.spindle j).lines := by
  unfold State.motionDone
  try dsimp only
  repeat' split
  all_goals simp

@[simp] theorem State.chargeOwner_static (s : State) (o : Option Tag) (j : Port) :
    ((s.chargeOwner o).spindle j).geometry = (s.spindle j).geometry ∧
    ((s.chargeOwner o).spindle j).lines = (s.spindle j).lines := by
  unfold State.chargeOwner
  try dsimp only
  repeat' split
  all_goals simp

@[simp] theorem State.seekFailed_static (s : State) (p : Port) (o : Option Tag) (j : Port) :
    ((s.seekFailed p o).spindle j).geometry = (s.spindle j).geometry ∧
    ((s.seekFailed p o).spindle j).lines = (s.spindle j).lines := by
  unfold State.seekFailed
  try dsimp only
  simp

@[simp] theorem State.motionFailed_static (s : State) (p : Port) (j : Port) :
    ((s.motionFailed p).spindle j).geometry = (s.spindle j).geometry ∧
    ((s.motionFailed p).spindle j).lines = (s.spindle j).lines := by
  unfold State.motionFailed
  try dsimp only
  repeat' split
  all_goals simp

@[simp] theorem State.motionTimeout_static (s : State) (p : Port) (j : Port) :
    ((s.motionTimeout p).spindle j).geometry = (s.spindle j).geometry ∧
    ((s.motionTimeout p).spindle j).lines = (s.spindle j).lines := by
  unfold State.motionTimeout
  try dsimp only
  repeat' split
  all_goals simp

@[simp] theorem State.spinUpTimeout_static (s : State) (p : Port) (j : Port) :
    ((s.spinUpTimeout p).spindle j).geometry = (s.spindle j).geometry ∧
    ((s.spinUpTimeout p).spindle j).lines = (s.spindle j).lines := by
  unfold State.spinUpTimeout
  try dsimp only
  repeat' split
  all_goals simp

@[simp] theorem State.spinDownTimeout_static (s : State) (p : Port) (j : Port) :
    ((s.spinDownTimeout p).spindle j).geometry = (s.spindle j).geometry ∧
    ((s.spinDownTimeout p).spindle j).lines = (s.spindle j).lines := by
  unfold State.spinDownTimeout
  try dsimp only
  repeat' split
  all_goals simp

@[simp] theorem State.idleTimeout_static (s : State) (p : Port) (j : Port) :
    ((s.idleTimeout p).spindle j).geometry = (s.spindle j).geometry ∧
    ((s.idleTimeout p).spindle j).lines = (s.spindle j).lines := by
  unfold State.idleTimeout
  try dsimp only
  repeat' split
  all_goals simp

end Sys2Proof.Machine
end

