-- ==== Sys2Proof/Tests/Slice0.lean ====
section
/-! SUPPORT. The model's own tests: ill-formed commands that WellFormed refuses; the manual's worked examples; one step of each
family on a small state; and, for each statement with hypotheses, a state and operands that meet them. -/

namespace Sys2Proof.Tests

open Sys2Proof Machine

set_option maxRecDepth 20000

/-! ### Small states -/

/-- A configured unit (C 4, H 2, S 4) that is present, in a state. -/
def unit (st : SpindleState) : Spindle :=
  { Spindle.reset ⟨true, false, false⟩ with state := st, geometry := some ⟨4, 2, 4⟩ }

/-- A unit in each state, with the fields that go with it. -/
def unitIn : SpindleState → Spindle
  | .unconfigured => Spindle.reset ⟨true, false, false⟩
  | .absent => { unit .absent with lines := ⟨false, false, false⟩ }
  | .parked => unit .parked
  | .spinWait => unit .spinWait
  | .spinningUp => { unit .spinningUp with spinUpTimer := some 9, lines := ⟨true, true, false⟩ }
  | .ready =>
    { unit .ready with lines := ⟨true, true, false⟩, tracker := ⟨true, 1, 1, none, some 5⟩, arm := .settled 1 }
  | .spinningDown => { unit .spinningDown with spinDownTimer := some 9, lines := ⟨true, true, false⟩ }
  | .faulted => { unit .faulted with cause := some .tracking }

/-- Right after reset but for spindle 0. -/
def alone (r : Spindle) : State :=
  { State.reset.setSpindle 0 r with waitList := if r.state = .spinWait then [0] else [] }

/-- The state with a message's frame at the head of the inbound queue. -/
def hearing (i : Instr) (s : State) : State := { s with inbound := (encodeFrame i).toList }

/-- The state after a command; the same state if there is none. -/
def after (i : Instr) (s : State) : State :=
  match exec i s with
  | .next t => t
  | .fault _ => s
  | .refused _ => s

/-- A request for three sectors from (1, 0, 2) of spindle 0. -/
def request (t : Tag) (k : Kind) (st : Status) : Request where
  tag := t
  kind := k
  spindle := 0
  start := ⟨1, 0, 2⟩
  count := 3
  flags := ⟨false, false, false, false, false⟩
  fill := none
  admitted := 0
  status := st
  holds := ⟨false, false, k == .write, false⟩
  next := ⟨1, 0, 2⟩
  done := 0
  suspects := 0
  firstSuspect := none
  retries := 0
  budget := 2
  overdue := false
  cancelPending := false
  frontier := 0
  staged := []
  ageTimer := some 2000000

/-- The channel's record for tag 3, in a phase, with the mark of the slot now passing taken. -/
def engagement (ph : Phase) : Engagement where
  tag := 3
  spindle := 0
  surface := 0
  index := 0
  target := ⟨1, 0, 2⟩
  burst := 0
  searchIndex := 0
  searchMarks := 0
  slotMarked := true
  lastJudged := false
  pending := []
  deferred := none
  phase := ph

/-- Spindle 0 READY, a request engaged. -/
def busy (e : Engagement) (r : Request) : State :=
  { alone (unitIn .ready) with table := [r], chan := some e, free := 24 - e.buffers - r.staged.length }

/-- A one-byte sector buffer, for a test. -/
def buffer (index : Nat) : Buffer := ⟨3, index, [7]⟩

/-- A SUBMIT's fields: READ of one sector at (1, 0, 0) of spindle 0 under tag 3. -/
def submitRead : SubmitFields := ⟨3, 1, 0, 0, 1, 0, 0, 1, none⟩

/-! ### WellFormed refuses -/

theorem test_submit_of_fitting_length_is_not_other : (Instr.submit 0 (.otherLength (List.replicate 10 0))).wellFormed = false := by
  decide

theorem test_wdata_needs_1024_bytes : (Instr.wdata 0 (.fields ⟨0, 0, [1, 2]⟩)).wellFormed = false := by decide

theorem test_cancel_of_one_byte_is_not_other : (Instr.cancel 0 (.otherLength [5])).wellFormed = false := by decide

theorem test_getp_of_one_byte_is_not_other : (Instr.getp 0 (.otherLength [5])).wellFormed = false := by decide

theorem test_unitctl_spin_up_is_not_refused : (Instr.messageRefusedBadField 4 0 [0, 3]).wellFormed = false := by decide

theorem test_unitctl_configure_is_not_refused : (Instr.messageRefusedBadField 4 0 [0, 1, 1, 0, 1, 4]).wellFormed = false := by
  decide

theorem test_setp_of_a_row_is_not_refused : (Instr.messageRefusedBadField 5 0 [13, 1, 0, 0, 0]).wellFormed = false := by decide

theorem test_status_of_a_row_is_not_refused : (Instr.messageRefusedBadField 7 0 [2, 0]).wellFormed = false := by decide

theorem test_refused_kind_has_a_row : (Instr.messageRefusedBadField 9 0 []).wellFormed = false := by decide

theorem test_known_kind_is_not_unknown : (Instr.unknownKind 9 0 []).wellFormed = false := by decide

theorem test_echo_fits_a_frame : (Instr.echo 0 (List.replicate 1041 0)).wellFormed = false := by decide

theorem test_restart_fits_a_frame : (Instr.restart 0 (List.replicate 1041 0)).wellFormed = false := by decide

theorem test_frame_fits : (Instr.frameReceived 0 0 (List.replicate 1041 0) 0).wellFormed = false := by decide

theorem test_length_error_is_above_1040 : (Instr.lengthError 1040).wellFormed = false := by decide

theorem test_field_has_256_words : (Instr.dataFieldEnd (.words [0] none)).wellFormed = false := by decide

/-! ### The manual's worked examples -/

/-- The CANCEL frame of section 9.1. -/
theorem test_cancel_frame : frameBytes 0x03 0x11 [0x05] = [0xB6, 0x03, 0x11, 0x01, 0x00, 0x05, 0xE5, 0xFF] := by decide

/-- Its REPLY, with 24 free buffers and 32 free slots. -/
theorem test_reply_frame :
    frameBytes 0x81 0x40 (replyBody ⟨0x03, 0x11, .ok, 24, 32, []⟩) =
      [0xB6, 0x81, 0x40, 0x05, 0x00, 0x03, 0x11, 0x00, 0x18, 0x20, 0xED, 0xFE] := by decide

/-- The header of (100, 1, 20), section 1.2. -/
theorem test_header : formatHeader ⟨100, 1, 20⟩ = (0x00640001, 0x80000014, 0x7F9BFFEA) := by decide

/-- The same section: the marker lost, the check as it was. -/
theorem test_header_without_marker : classifyHeader (some (0x00640001, 0x00000014, 0x7F9BFFEA)) = .invalid := by decide

/-- A header of all one words names an address of no geometry (section 1.2). -/
theorem test_header_of_ones :
    classifyHeader (some (0xFFFFFFFF, 0xFFFFFFFF, 0xFFFFFFFF)) = .formatted ⟨65535, 65535, 65535⟩ := by decide

/-- The check word of section 1.3, under (100, 1, 20) and then under (100, 0, 20). -/
theorem test_check_word :
    checkWord (0x11223344 :: List.replicate 254 0 ++ [0x000000FF]) 0x00640001 = 0x114633BA ∧
      checkWord (0x11223344 :: List.replicate 254 0 ++ [0x000000FF]) 0x00640000 = 0x114633BB := by decide

/-- Payload bytes and data words (R5). -/
theorem test_payload_words : wordsOfBytes [0x44, 0x33, 0x22, 0x11, 0xFF, 0, 0, 0] = [0x11223344, 0x000000FF] := by decide

/-- Slot 3 of the formatted track of section 1.5. -/
theorem test_formatted_slot :
    (formattedSlot ⟨7, 3, 3⟩ (some 0xA5A5A5A5)).header = some (0x00070003, 0x80000003, 0x7FF8FFFF) ∧
      (formattedSlot ⟨7, 3, 3⟩ (some 0xA5A5A5A5)).check = some 0x00070003 := by decide

/-- Table 1-1: where the regions lie, and the bytes of the header of section 1.2 on the media. -/
theorem test_slot_layout :
    Region.headerWord0.start = 12 ∧ Region.dataField.start = 40 ∧ Region.checkWord.start = 1064 ∧ Region.trailingGap.stop = 1092 ∧
      ((slotImage 0 (formattedSlot ⟨100, 1, 20⟩ none)).drop 12).take 12 =
        [0x01, 0x00, 0x64, 0x00, 0x14, 0x00, 0x00, 0x80, 0xEA, 0xFF, 0x9B, 0x7F] := by decide

/-- R12, R13: a data write cut short in its trailing gap reads good, a format slot does not. -/
theorem test_cut_in_the_trailing_gap :
    (tornSlot (formattedSlot ⟨7, 3, 3⟩ none) (List.replicate 256 1) 0x00070003 1070).check = some 0x00070003 ∧
      (tornFormatSlot (formattedSlot ⟨7, 3, 3⟩ none) ⟨7, 3, 3⟩ none 1070).check = none ∧
      (tornFormatSlot (formattedSlot ⟨7, 3, 3⟩ none) ⟨7, 3, 3⟩ none 23).header = none := by decide

/-- Section 1.4: the step from index 1 to index 2, and the end of the spindle. -/
theorem test_successors :
    Geometry.successor ⟨500, 2, 32⟩ ⟨100, 0, 31⟩ = ⟨100, 1, 0⟩ ∧ Geometry.successor ⟨500, 2, 32⟩ ⟨499, 1, 31⟩ = ⟨500, 0, 0⟩ ∧
      Geometry.linear ⟨500, 2, 32⟩ ⟨100, 0, 30⟩ = 6430 := by decide

/-- Section 1.4: a run that fits to the last sector, and one that does not. -/
theorem test_run_fits :
    Geometry.fits ⟨500, 2, 32⟩ .read ⟨499, 1, 0⟩ 32 = true ∧ Geometry.fits ⟨500, 2, 32⟩ .read ⟨499, 1, 0⟩ 33 = false := by
  decide

/-- R54: the next slot, the slot now passing, and a distance across the index. -/
theorem test_distance :
    rotationalDistance 32 19 20 = 0 ∧ rotationalDistance 32 20 20 = 31 ∧ rotationalDistance 32 30 2 = 3 := by decide

/-! ### Frames become commands (Tables 9-2 and 9-3) -/

theorem test_decode_submit :
    decodeFrame ⟨0x01, 9, [4, 2, 3, 8, 0x2C, 0x01, 0, 20, 40, 0]⟩ = .submit 9 (.fields ⟨4, 2, 3, 8, 300, 0, 20, 40, none⟩) := by
  decide

theorem test_decode_configure : decodeFrame ⟨0x04, 1, [3, 1, 0xE8, 0x03, 2, 32]⟩ = .configure 1 3 1000 2 32 := by decide

theorem test_decode_setp : decodeFrame ⟨0x05, 1, [10, 0xD0, 0x07, 0, 0]⟩ = .setpAgeLimit 1 2000 := by decide

theorem test_decode_device_kind : decodeFrame ⟨0x81, 1, []⟩ = .unknownKind 0x81 1 [] := by decide

/-! ### One step -/

/-- R20, R26, R170: the spindle is started in the same event, and its REPLY is on the line. -/
theorem test_spin_up :
    let t := after (.spinUp 7 0) (hearing (.spinUp 7 0) (alone (unitIn .parked)))
    (t.spindle 0).state = .spinningUp ∧ (t.spindle 0).spinUpTimer = some 20000000 ∧
      t.line = some ⟨0x81, 0, [4, 7, 0, 24, 32], false⟩ := by decide

/-- R21, R30: SPIN_DOWN of a READY spindle. -/
theorem test_spin_down :
    let t := after (.spinDown 7 0) (hearing (.spinDown 7 0) (alone (unitIn .ready)))
    (t.spindle 0).state = .spinningDown ∧ (t.spindle 0).arm = .unknown := by decide

/-- R18: S below 4 is refused BAD_FIELD. -/
theorem test_configure_range :
    (after (.configure 7 0 1 1 3) (hearing (.configure 7 0 1 1 3) State.reset)).line =
      some ⟨0x81, 0, [4, 7, 1, 24, 32], false⟩ := by decide

/-- R18: with PRES asserted a CONFIGURE leads to PARKED. -/
theorem test_configure :
    ((after (.configure 7 0 1 1 4) (hearing (.configure 7 0 1 1 4) (alone (unitIn .unconfigured)))).spindle 0).state =
      .parked := by decide

/-- R22: CLEAR_FAULT of a PARKED spindle is refused WRONG_STATE. -/
theorem test_clear_fault_parked :
    (after (.clearFault 7 0) (hearing (.clearFault 7 0) (alone (unitIn .parked)))).line =
      some ⟨0x81, 0, [4, 7, 13, 24, 32], false⟩ := by decide

/-- R178: IDLE_TIMEOUT takes 0 and refuses 1 to 9. -/
theorem test_idle_timeout_range :
    (after (.setpIdleTimeout 7 0) (hearing (.setpIdleTimeout 7 0) State.reset)).params.idleTimeout = 0 ∧
      (after (.setpIdleTimeout 7 9) (hearing (.setpIdleTimeout 7 9) State.reset)).params.idleTimeout = 120 := by decide

/-- R177: GETP of AGE_LIMIT. -/
theorem test_getp :
    (after (.getp 7 (.fields 10)) (hearing (.getp 7 (.fields 10)) State.reset)).line =
      some ⟨0x81, 0, [6, 7, 0, 24, 32, 10, 0xD0, 0x07, 0, 0], false⟩ := by decide

/-- R81, R113: a READ on the arm's cylinder is admitted and engaged in the event. -/
theorem test_submit_engages :
    (after (.submit 7 (.fields submitRead)) (hearing (.submit 7 (.fields submitRead)) (alone (unitIn .ready)))).chan.map
      (·.phase) = some .search := by decide

/-- R132, R97: the last sector of a READ is delivered; its RDATA is on the line and its DONE waits behind it. -/
theorem test_read_completes :
    let t := after (.dataFieldEnd (.words [1] (some 3)))
      (busy (engagement (.readField 2 2)) { request 3 .read .active with count := 1 })
    t.line = some ⟨0x82, 0, [3, 0, 0, 0, 1, 0, 0, 2, 1, 0, 0, 0], true⟩ ∧
      t.stream = [.done ⟨3, .complete, 1, ⟨1, 0, 3⟩, 0, 0, none, none, none⟩] ∧ t.free = 23 := by decide

/-- R128: a header of another cylinder spends a retry, restores the arm and releases the request. -/
theorem test_position_error :
    let t := after (.headerRead 0 (.words 0x00020000 0x80000002 0x7FFDFFFD)) (busy (engagement .search) (request 3 .read .active))
    (t.request 3).map (fun r => (r.status, r.budget, r.retries)) = some (.queued, 1, 1) ∧
      (t.spindle 0).arm = .restoring 500000 ∧ t.chan = none := by decide

/-- R123: the header of a slot whose mark was taken before the search began is not read. -/
theorem test_slot_passing_at_engagement :
    let s := busy { engagement .search with slotMarked := false } (request 3 .read .active)
    after (.headerRead 0 (.words 0x00010000 0x80000002 0x7FFEFFFD)) s = s := by decide

/-- R139: at the revolution limit the matched header is the last one judged, and a header after it fails the pass. -/
theorem test_last_header_of_pass :
    let s (judged : Bool) := busy { engagement (.pass none) with
      searchIndex := 3, lastJudged := judged, index := 1, pending := [⟨0, buffer 0, 3⟩], deferred := some .runEnd }
      (request 3 .write .active)
    let read (judged : Bool) := after (.headerRead 0 (.words 0x00010000 0x80000002 0x7FFEFFFD)) (s judged)
    (read false).chan.map (fun e => (e.phase, e.lastJudged)) = some (.pass (some (0x00010000, 0)), true) ∧
      (read true).chan = none ∧ (read true).table = [] := by decide

/-- R32, R182: a fault during a RESTART moves the engaged spindle and the others in ascending order. -/
theorem test_activity_at_clearing :
    let s := { State.reset.setSpindle 5 (unitIn .ready) with
      table := [{ request 4 .read .held with spindle := 2 }, { request 3 .write .active with spindle := 5 }]
      chan := some { engagement (.writeField 2 2 (buffer 0)) with spindle := 5 }
      free := 23, activity := [5], restart := some 7, choiceHold := true, stopRequest := true }
    (after (.ufltRising 5) s).activity = [2, 5] := by decide

/-- Section 8.9, step 14: with the frontier at the count every further WDATA is refused WINDOW. -/
theorem test_wdata_past_the_run :
    wdataRefusal State.reset { request 3 .write .queued with frontier := 3 } 3 = some .window := by decide

/-- R50, R51: an early index mark is an error, and the position is known again. -/
theorem test_short_revolution :
    ((after (.indexMark 0 9) (alone (unitIn .ready))).spindle 0).tracker = ⟨true, 0, 2, none, some 9⟩ := by decide

/-- R39, R96: a fault completes the engaged request; its EVENT goes first and its DONE waits in the Stream. -/
theorem test_fault_completes :
    let t := after (.ufltRising 0) (busy (engagement .search) (request 3 .read .active))
    t.table = [] ∧ t.line = some ⟨0x84, 0, [0, 1, 7, 1, 1], false⟩ ∧
      t.stream = [.done ⟨3, .spindleFault, 0, ⟨1, 0, 2⟩, 0, 0, none, some .unitFault, none⟩] := by decide

/-- R13: a fault between a format slot's trailing gap and its mark: the slot is whole, the DONE counts it, and nothing is torn. -/
theorem test_fault_after_format_slot :
    let t := after (.ufltRising 0) (busy (engagement (.formatWrite false)) (request 3 .format .active))
    t.stream = [.done ⟨3, .spindleFault, 1, ⟨1, 0, 3⟩, 0, 0, none, some .unitFault, none⟩] ∧ t.freeUses = 0 := by decide

/-- R97: a fault after the last format slot's trailing gap does not report every sector done. -/
theorem test_fault_after_last_format_slot :
    (after (.ufltRising 0)
      (busy (engagement (.formatWrite false)) { request 3 .format .active with done := 2, next := ⟨1, 1, 0⟩ })).stream =
      [.done ⟨3, .spindleFault, 2, ⟨1, 1, 0⟩, 0, 0, none, some .unitFault, none⟩] := by decide

/-- R151, R184: an RDATA cut off by RSTn keeps its buffer in its place until the release. -/
theorem test_cut_off_rdata :
    let s := { State.reset with line := some ⟨0x82, 0, [], true⟩, free := 23 }
    let t := after .rstnAsserted s
    t.line = none ∧ t.free + t.buffersInUse = 24 ∧ (after .rstnAsserted t).buffersInUse = 1 ∧
      (after .hardwareReset t).free = 24 ∧ (after .hardwareReset t).cutOff = false := by decide

/-- R67: with no motion in flight a seek done mark is not taken. -/
theorem test_late_skd : after (.skd 0) (alone (unitIn .ready)) = alone (unitIn .ready) := by decide

/-- R184: an assertion of RSTn cuts off the frame being received. -/
theorem test_rstn : (after .rstnAsserted { State.reset with parser := .frame true 0 }).parser = .hunt := by decide

/-- R167: the gap timeout comes 10 ms after the start byte at the earliest, and a frame cannot end later than its bytes allow. -/
theorem test_gap_limit :
    (after .gapTimeout { State.reset with now := 4, parser := .frame true 3 }).now = 10003 ∧
      (after (.frameReceived 9 0 [] (frameCheck 9 0 [])) { State.reset with now := 60001, parser := .frame true 0 }).inbound = [] ∧
      (after (.frameReceived 9 0 [] (frameCheck 9 0 [])) { State.reset with now := 60000, parser := .frame true 0 }).inbound =
        [⟨9, 0, []⟩] := by decide

/-! ### Witnesses: states and operands that meet the hypotheses of the statements -/

theorem witness_ResetHolds :
    let s := { State.reset with inReset := true }
    s.inReset = true ∧ Instr.presRising 0 ≠ .rstnAsserted ∧ Instr.presRising 0 ≠ .hardwareReset ∧
      ∃ t, exec (.presRising 0) s = .next t :=
  ⟨rfl, by decide, by decide, _, rfl⟩

/-- The engaged channel has stopped for a RESTART. -/
def stopped : State := { State.reset with stopRequest := true, choiceHold := true, restart := some 7 }

theorem witness_EventEndFrame :
    stopDone State.reset State.reset = false ∧ StopCause State.reset stopped ∧ ¬ StopCause State.reset State.reset ∧
      BudgetCause State.reset (alone (unitIn .spinWait)) ∧ ¬ BudgetCause State.reset State.reset ∧
      ScheduleCause State.reset (alone (unitIn .ready)) ∧ ¬ ScheduleCause State.reset State.reset ∧
      stopped.choiceHold = true ∧ State.reset.choiceHold = false := by
  refine ⟨by decide, stopDone_iff.1 (by decide), fun h => absurd (stopDone_iff.2 h) (by decide), budgetDue_iff.1 (by decide),
    fun h => absurd (budgetDue_iff.2 h) (by decide), scheduleDue_iff.1 (by decide), fun h => absurd (scheduleDue_iff.2 h) (by decide),
    rfl, rfl⟩

/-- R150: a reset while the write gate is open, in a data write and in a format slot, and while it is closed. -/
theorem witness_HardwareResetState :
    (busy (engagement (.writeField 2 2 (buffer 0))) (request 3 .write .active)).writeGate = some 0 ∧
      (busy (engagement (.formatWrite true)) (request 3 .format .active)).writeGate = some 0 ∧
      State.reset.writeGate = none := by decide

theorem witness_FrameLayout :
    (List.replicate 1040 (0 : Byte)).length ≤ 1040 ∧ ([] : List Byte).length ≤ 1040 := by decide

theorem witness_FramesReceived :
    let full := { State.reset with parser := .frame false 0, inbound := List.replicate 4 ⟨9, 0, []⟩ }
    let open_ := { State.reset with parser := .frame true 0 }
    let late := { State.reset with parser := .frame true 0, now := 60001 }
    State.reset.inReset = false ∧ State.reset.parser = .hunt ∧ open_.inReset = false ∧ open_.parser = .frame true 0 ∧
      open_.now ≤ 0 + (([] : List Byte).length + 6) * 10000 ∧ 0 + (([] : List Byte).length + 6) * 10000 < late.now ∧
      full.inReset = false ∧ full.parser = .frame false 0 ∧ (List.replicate 1040 (0 : Byte)).length ≤ 1040 ∧
      frameCheck 9 0 [] + 1 ≠ frameCheck 9 0 [] ∧ 1040 < (1041 : Half).toNat ∧ 0 + 40000 < late.now := by decide

/-- A frame in transmission, without and with a buffer. -/
def sending (holds : Bool) : State := { State.reset with line := some ⟨0x82, 0, [], holds⟩, free := if holds then 23 else 24 }

theorem witness_TransmissionEnds :
    (sending true).inReset = false ∧ State.reset.line = none ∧
      (sending false).line = some ⟨0x82, 0, [], false⟩ ∧ (sending true).line = some ⟨0x82, 0, [], true⟩ := by decide

/-- A reply, a notice, an event and a Stream entry, each with all of lower rank. -/
def sources (rank : Nat) : State :=
  { State.reset with
    replies := if rank = 0 then [⟨9, 0, .ok, 24, 32, []⟩] else []
    notice := if rank ≤ 1 then ⟨0, 0, 1, 0⟩ else ⟨0, 0, 0, 0⟩
    events := if rank ≤ 2 then [⟨0, ⟨true, false, false, false, false⟩, .parked, none, 1⟩] else []
    stream :=
      if rank ≤ 3 then [.rdata (buffer 0) 0 ⟨1, 0, 2⟩ false]
      else if rank = 4 then [.done ⟨3, .complete, 1, ⟨1, 0, 3⟩, 0, 0, none, none, none⟩]
      else [] }

theorem witness_ArbiterServes :
    (sending true).line.isSome = true ∧ sourceFilled State.reset State.reset = false ∧
      (∀ rank ∈ [0, 1, 2, 3, 4], (sources rank).line = none ∧ sourceFilled State.reset (sources rank) = true) ∧
      (sources 0).replies ≠ [] ∧ (sources 1).replies = [] ∧ (sources 1).notice ≠ ⟨0, 0, 0, 0⟩ ∧
      (sources 2).notice = ⟨0, 0, 0, 0⟩ ∧ (sources 2).events ≠ [] ∧ (sources 3).events = [] ∧
      (sources 4).events = [] ∧ (sources 5).stream = [] ∧ (sending true).line.isSome = true := by decide

theorem witness_HandlingWaits :
    (Instr.echo 7 []).isMessage = true ∧ State.reset.canHandle (.echo 7 []) = false ∧
      (hearing (.echo 7 []) State.reset).canHandle (.echo 7 []) = true := by decide

theorem witness_LinkRefusals :
    ∀ i ∈ [Instr.unknownKind 0x0A 7 [], .unknownKind 0 7 [1], .messageRefusedBadField 4 7 [0, 6],
        .messageRefusedBadField 5 7 [14, 0, 0, 0, 0], .messageRefusedBadField 7 7 [3, 0], .submit 7 (.otherLength [1]),
        .wdata 7 (.otherLength []), .cancel 7 (.otherLength []), .getp 7 (.otherLength [1, 1]), .restart 7 [0]],
      (hearing i State.reset).canHandle i = true := by decide

theorem witness_EchoAnswers :
    ∀ n ∈ [0, 1035, 1036], (hearing (.echo 7 (List.replicate n 0)) State.reset).canHandle
      (.echo 7 (List.replicate n 0)) = true := by
  intro n _
  simp [State.canHandle, hearing, encodeFrame, decodeFrame, State.reset, State.streamDones]

theorem witness_GetpAnswers :
    (∀ b ∈ [(0 : Byte), 1, 13, 14], (hearing (.getp 7 (.fields b)) State.reset).canHandle (.getp 7 (.fields b)) = true) ∧
      ((13 : Byte), ParamId.trackFaultLimit, 1, 15) ∈ paramRows ∧ 13 < (14 : Byte).toNat := by decide

theorem witness_StatusAnswers :
    let s := busy (engagement .search) (request 3 .read .active)
    (hearing (.statusPart 7 0) s).canHandle (.statusPart 7 0) = true ∧
      (∀ n ∈ [(0 : Byte), 7, 8], (hearing (.statusSpindle 7 n) s).canHandle (.statusSpindle 7 n) = true) ∧
      (∀ n ∈ [(3 : Byte), 31, 32], (hearing (.statusRequest 7 n) s).canHandle (.statusRequest 7 n) = true) ∧
      s.request 3 = some (request 3 .read .active) ∧ s.request 31 = none ∧ 7 < (8 : Byte).toNat ∧ 31 < (32 : Byte).toNat := by
  decide

/-! Parameters and RESTART -/

theorem witness_SetpStores_highest :
    ∀ i ∈ [
        setpInstr .spinLimit 7 8, setpInstr .surgeLimit 7 4, setpInstr .spinupTimeout 7 60,
        setpInstr .spindownTimeout 7 60, setpInstr .idleTimeout 7 3600, setpInstr .seekTimeout 7 2000,
        setpInstr .revLimit 7 7, setpInstr .retryLimit 7 7, setpInstr .burstLimit 7 256, setpInstr .ageLimit 7 60000,
        setpInstr .stageDepth 7 16, setpInstr .readReserve 7 8, setpInstr .trackFaultLimit 7 15],
      (hearing i State.reset).canHandle i = true := by decide

theorem witness_SetpStores_above :
    ∀ i ∈ [
        setpInstr .spinLimit 7 9, setpInstr .surgeLimit 7 5, setpInstr .spinupTimeout 7 61,
        setpInstr .spindownTimeout 7 61, setpInstr .idleTimeout 7 9, setpInstr .seekTimeout 7 2001,
        setpInstr .revLimit 7 8, setpInstr .retryLimit 7 8, setpInstr .burstLimit 7 257, setpInstr .ageLimit 7 60001,
        setpInstr .stageDepth 7 17, setpInstr .readReserve 7 9, setpInstr .trackFaultLimit 7 16],
      (hearing i State.reset).canHandle i = true := by decide

theorem witness_SetpStores_edges :
    paramInRange 8 .spinLimit = true ∧ paramInRange 9 .spinLimit = false ∧ paramInRange 0 .idleTimeout = true ∧
      paramInRange 9 .idleTimeout = false ∧ paramInRange 256 .burstLimit = true ∧ paramInRange 257 .burstLimit = false := by
  decide

theorem witness_SetpStores_in_range : inTable99 .spinLimit 1 ∧ ¬ inTable99 .spinLimit 9 ∧ inTable99 .idleTimeout 0 := by
  refine ⟨.inr ⟨1, 1, 8, by decide⟩, ?_, .inl (by decide)⟩
  rintro (h | ⟨b, lo, hi, h, -, h9⟩)
  · exact absurd h (by decide)
  · simp [paramRows] at h
    omega

/-- Two spindles SPINNING_UP, with SURGE_LIMIT 2. -/
def rising : State :=
  { (alone (unitIn .spinningUp)).setSpindle 1 (unitIn .spinningUp) with params := { Params.defaults with surgeLimit := 2 } }

theorem witness_SetpStores_limit_in_use :
    (hearing (setpInstr .spinLimit 7 1) rising).canHandle (setpInstr .spinLimit 7 1) = true ∧
      (hearing (setpInstr .surgeLimit 7 1) rising).canHandle (setpInstr .surgeLimit 7 1) = true ∧
      (1 : Word).toNat < rising.spinningCount ∧ (1 : Word).toNat < rising.risingCount := by decide

theorem witness_SetpRetimesAndLowers :
    let s := busy (engagement .search) (request 3 .read .active)
    (hearing (.setpAgeLimit 7 100) s).canHandle (.setpAgeLimit 7 100) = true ∧
      (hearing (.setpTrackFaultLimit 7 1) s).canHandle (.setpTrackFaultLimit 7 1) = true ∧
      inTable99 .ageLimit (100 : Word).toNat ∧ inTable99 .trackFaultLimit (1 : Word).toNat :=
  ⟨by decide, by decide, .inr ⟨10, 100, 60000, by decide⟩, .inr ⟨13, 1, 15, by decide⟩⟩

theorem witness_RestartTaken :
    (hearing (.restart 7 []) State.reset).canHandle (.restart 7 []) = true ∧
      (hearing (.restart 7 []) (busy (engagement .search) (request 3 .read .active))).canHandle (.restart 7 []) = true ∧
      Phase.stopsAtOnce .search = true ∧ Phase.stopsAtOnce (.writeField 0 2 (buffer 0)) = false := by decide

/-- A RESTART that waits for a write to end, and the state once the Channel has stopped. -/
def stopping : State :=
  { busy (engagement (.writeField 0 2 (buffer 0))) (request 3 .write .active) with
    restart := some 7, choiceHold := true, stopRequest := true }

theorem witness_ClearingStep :
    let c := { stopping with chan := none, free := 24 }
    stopDone stopping c = true ∧ c.inReset = false ∧ c.chan = none ∧ c.admissionList.Nodup ∧
      c.free + c.buffersInUse = Config.bufferCount := by decide

/-! Spindles -/

/-- Every spindle state. -/
def allStates : List SpindleState :=
  [.unconfigured, .absent, .parked, .spinWait, .spinningUp, .ready, .spinningDown, .faulted]

/-- The states of `alone` have their timers with their spindle states. -/
theorem alone_timers : ∀ st ∈ allStates, (alone (unitIn st)).TimersSound := by
  unfold State.TimersSound
  decide

/-- And the wait list. -/
theorem alone_waitList : ∀ st ∈ allStates, (alone (unitIn st)).WaitListExact := by
  unfold State.WaitListExact
  decide

theorem witness_SpinDownBeginsAndEnds :
    (∀ st ∈ [SpindleState.spinningUp, .ready, .spinningDown], ((alone (unitIn st)).spindle 0).state = st) ∧
      ((alone (unitIn .ready)).spindle 0).lines.spun = true ∧
      ((alone { unitIn .spinningUp with lines := ⟨true, false, false⟩ }).spindle 0).lines.spun = false := by decide

/-- Whether spindle 0 hears a command in each state, without and with a request. -/
def heardInAll (i : Instr) : Bool :=
  allStates.all fun st =>
    (hearing i (alone (unitIn st))).canHandle i && ((alone (unitIn st)).spindle 0).state == st &&
      (alone (unitIn st)).requestCount 0 == 0

theorem witness_Configure :
    heardInAll (.configure 7 0 4096 16 64) = true ∧ heardInAll (.configure 7 0 1 1 4) = true ∧
      heardInAll (.configure 7 0 0 1 4) = true ∧ heardInAll (.configure 7 8 1 1 4) = true ∧ 7 < (8 : Byte).toNat ∧
      (busy (engagement .search) (request 3 .read .active)).requestCount 0 ≠ 0 := by decide

theorem witness_DeconfigureAndClearFault :
    heardInAll (.deconfigure 7 0) = true ∧ heardInAll (.deconfigure 7 8) = true ∧ heardInAll (.clearFault 7 0) = true ∧
      heardInAll (.clearFault 7 8) = true := by decide

theorem witness_SpinUp : heardInAll (.spinUp 7 0) = true ∧ heardInAll (.spinUp 7 8) = true := by decide

theorem witness_SpinDown :
    heardInAll (.spinDown 7 0) = true ∧ heardInAll (.spinDown 7 8) = true ∧
      (let s := hearing (.spinDown 7 0) (busy (engagement .search) (request 3 .read .active))
      s.canHandle (.spinDown 7 0) = true ∧ s.requestCount 0 ≠ 0) := by decide

theorem busy_armExact : ∀ ph ∈ [Phase.search, .writeField 0 2 (buffer 0), .formatWrite true],
    (busy (engagement ph) (request 3 .write .active)).ArmExact := by
  unfold State.ArmExact
  decide

theorem busy_engagementExact : ∀ ph ∈ [Phase.search, .writeField 0 2 (buffer 0), .formatWrite true],
    (busy (engagement ph) (request 3 .write .active)).EngagementExact := by
  intro ph _
  refine ⟨by simp [State.TagsDistinct, State.admissionList, busy], ?_, ?_⟩ <;> simp [busy, request, engagement]

theorem witness_SpindleLeavesService :
    (∀ ph ∈ [Phase.search, .writeField 0 2 (buffer 0), .formatWrite true, .formatWrite false],
      (busy (engagement ph) (request 3 .write .active)).chan = some (engagement ph)) ∧
      (busy (engagement .search) (request 3 .write .active)).writeGate ≠ some 0 ∧
      (busy (engagement (.formatWrite true)) (request 3 .write .active)).writeGate = some 0 := by decide

theorem witness_FaultEvents :
    (∀ st ∈ allStates, (alone (unitIn st)).inReset = false ∧ ((alone (unitIn st)).spindle 0).state = st) ∧
      ((alone (unitIn .ready)).spindle 0).lines.spun = true ∧
      ((alone (unitIn .spinningUp)).spindle 0).spinUpTimer = some 9 ∧
      ((alone (unitIn .spinningDown)).spindle 0).spinDownTimer = some 9 := by decide

theorem witness_LineChanges :
    (alone (unitIn .ready)).inReset = false ∧ ((alone (unitIn .ready)).spindle 0).lines.pres = true ∧
      ((alone (unitIn .absent)).spindle 0).lines.pres = false ∧ State.reset.inReset = false ∧
      (State.reset.spindle 0).lines.pres = false ∧ (State.reset.spindle 0).state ≠ .absent ∧
      ((alone (unitIn .unconfigured)).spindle 0).lines.pres = true ∧
      ((alone (unitIn .spinningDown)).spindle 0).lines.spun = true ∧
      ((alone (unitIn .spinningUp)).spindle 0).lines.spun = true ∧ ((alone (unitIn .parked)).spindle 0).lines.spun = false ∧
      ((alone (unitIn .parked)).spindle 0).lines.wpr ≠ true := by decide

theorem witness_TimerExpiries :
    let idle := alone { unitIn .ready with idleTimer := some 9 }
    let s := busy (engagement .search) (request 3 .read .active)
    idle.inReset = false ∧ (idle.spindle 0).state = .ready ∧ (idle.spindle 0).idleTimer = some 9 ∧
      ((alone (unitIn .ready)).spindle 0).idleTimer = none ∧ s.inReset = false ∧
      (s.request 3).bind (·.ageTimer) = some 2000000 ∧ s.request 4 = none := by decide

/-- A spindle that waits while spindle 1 turns, idle, and the limit is 1: an eviction is due. -/
def crowded : State :=
  { (alone (unitIn .spinWait)).setSpindle 1 (unitIn .ready) with
    params := { Params.defaults with spinLimit := 1 }, activity := [1] }

theorem witness_BudgetSettles :
    (alone (unitIn .spinWait)).canStart = true ∧ crowded.canStart = false ∧ crowded.evictChoice = some 1 ∧
      State.reset.canStart = false ∧ State.reset.evictChoice = none ∧ (alone (unitIn .spinWait)).waitList = [0] ∧
      (alone (unitIn .spinWait)).inReset = false := by decide

theorem witness_EventPosts :
    let s := { alone (unitIn .faulted) with events := [⟨1, ⟨true, false, false, false, false⟩, .parked, none, 255⟩] }
    (s.spindle 0).state = .faulted ∧ (s.spindle 0).cause = some .tracking ∧ (∀ r ∈ s.events, r.spindle ≠ 0) ∧
      (s.spindle 1).state ≠ .faulted := by decide

/-! Marks, arms and timers -/

/-- Spindle 0 READY with its tracker and arm as given. -/
def tracking (t : Tracker) (a : Arm) : State := alone { unitIn .ready with tracker := t, arm := a }

theorem witness_SectorMarks :
    ∀ c ∈ [0, 2, 3],
      let s := tracking ⟨true, c, 2, none, none⟩ (.settled 0)
      s.inReset = false ∧ (s.spindle 0).state.spinning = true ∧ (s.spindle 0).lines.spun = true ∧
        (s.spindle 0).tracker.tracked = true ∧
        ((s.spindle 0).tracker.sector + 1 < (s.spindle 0).sectors ∨
          (s.spindle 0).tracker.sector + 1 = (s.spindle 0).sectors) := by decide

theorem witness_SectorMarks_not_taken :
    (alone (unitIn .parked)).inReset = false ∧ ((alone (unitIn .parked)).spindle 0).state.spinning = false := by decide

theorem witness_IndexMarks :
    (∀ c ∈ [0, 2, 3],
      let s := tracking ⟨true, c, 2, none, some 5⟩ (.settled 0)
      s.inReset = false ∧ (s.spindle 0).state ≠ .spinningUp ∧ (s.spindle 0).state.spinning = true ∧
        (s.spindle 0).lines.spun = true ∧ (s.spindle 0).tracker.tracked = true ∧
        ((s.spindle 0).tracker.sector + 1 = (s.spindle 0).sectors ∨
          (s.spindle 0).tracker.sector + 1 ≠ (s.spindle 0).sectors)) ∧
      ((tracking ⟨false, 0, 2, none, some 5⟩ (.settled 0)).spindle 0).tracker.tracked = false ∧
      ((alone (unitIn .spinningDown)).spindle 0).tracker.tracked = false ∧
      ((alone (unitIn .spinningDown)).spindle 0).state = .spinningDown ∧
      ((alone (unitIn .parked)).spindle 0).state.spinning = false := by decide

theorem witness_ReadyEntered :
    let still := alone { unitIn .spinningUp with lines := ⟨true, false, false⟩ }
    (alone (unitIn .spinningUp)).inReset = false ∧ ((alone (unitIn .spinningUp)).spindle 0).state = .spinningUp ∧
      ((alone (unitIn .spinningUp)).spindle 0).lines.spun = true ∧ still.inReset = false ∧
      (still.spindle 0).state = .spinningUp ∧ (still.spindle 0).lines.spun = false := by decide

theorem witness_ReadyEntered_timers :
    (alone { unitIn .spinningUp with lines := ⟨true, false, false⟩ }).TimersSound := by
  unfold State.TimersSound
  decide

theorem witness_ChannelMarks :
    let s := busy (engagement .search) (request 3 .read .active)
    let last := { engagement .search with searchMarks := 15 }
    let pend := { last with pending := [⟨0, buffer 0, 0⟩] }
    s.chan = some (engagement .search) ∧
      (engagement .search).searchMarks + 1 < (s.params.revLimit + 1) * (s.spindle 0).sectors ∧
      (s.params.revLimit + 1) * (s.spindle 0).sectors ≤ last.searchMarks + 1 ∧ last.pending = [] ∧ pend.pending ≠ [] ∧
      (engagement .formatWait).phase = .formatWait ∧ (s.spindle 0).lines.wpr = false ∧
      ((alone { unitIn .ready with lines := ⟨true, true, true⟩ }).spindle 0).lines.wpr = true ∧
      (∀ e, State.reset.chan = some e → e.spindle ≠ 0) := by
  refine ⟨rfl, by decide, by decide, rfl, by decide, rfl, by decide, by decide, ?_⟩
  intro e h
  cases h

theorem witness_MotionEnds :
    let s := { busy (engagement .search) (request 3 .read .queued) with
      chan := none, spindles := (tracking ⟨true, 1, 0, none, none⟩ (.seeking 2 (some 3) 9)).spindles }
    s.inReset = false ∧ (s.spindle 0).state = .ready ∧ (s.spindle 0).arm = .seeking 2 (some 3) 9 ∧
      s.request 3 = some (request 3 .read .queued) ∧ (request 3 .read .queued).budget ≠ 0 ∧
      ({ request 3 .read .queued with budget := 0 } : Request).budget = 0 ∧ s.request 4 = none ∧
      ((tracking ⟨true, 1, 0, none, none⟩ (.restoring 9)).spindle 0).arm = .restoring 9 ∧
      ((alone (unitIn .ready)).spindle 0).arm = .settled 1 ∧ ((alone (unitIn .parked)).spindle 0).state ≠ .ready ∧
      (let o := tracking ⟨true, 1, 0, none, none⟩ (.seeking 2 none 9)
      (o.spindle 0).arm = .seeking 2 none 9 ∧ o.request 3 = none) := by decide

/-! The Request Table -/

/-- A SUBMIT with its tag changed, heard by a spindle in a state. -/
def submitTo (st : SpindleState) (m : SubmitFields) : State := hearing (.submit 7 (.fields m)) (alone (unitIn st))

theorem witness_SubmitRefused_illegal :
    ∀ m ∈ [{ submitRead with tag := 32 }, { submitRead with kind := 0 }, { submitRead with kind := 5 },
        { submitRead with spindle := 8 }, { submitRead with count := 0 }, { submitRead with count := 257 },
        { submitRead with flags := 32 }, { submitRead with flags := 8 }, { submitRead with fill := some 1 }],
      (submitTo .ready m).canHandle (.submit 7 (.fields m)) = true ∧ ¬ SubmitLegal m := by
  unfold SubmitLegal
  decide

theorem witness_SubmitRefused_states :
    SubmitLegal submitRead ∧ submitRead.tag.toNat = (3 : Tag).val ∧ submitRead.spindle.toNat = (0 : Port).val ∧
      ∀ st ∈ allStates, (submitTo st submitRead).canHandle (.submit 7 (.fields submitRead)) = true ∧
        (submitTo st submitRead).request 3 = none ∧ ((submitTo st submitRead).spindle 0).state = st := by
  unfold SubmitLegal
  decide

theorem witness_SubmitRefused_table_and_run :
    ((busy (engagement .search) (request 3 .read .active)).request 3).isSome = true ∧
      (∀ m ∈ [{ submitRead with cylinder := 4 }, { submitRead with surface := 2 }, { submitRead with sector := 4 },
          { submitRead with cylinder := 3, surface := 1, sector := 3, count := 2 },
          { submitRead with kind := 4, count := 0, sector := 1 }],
        SubmitLegal m ∧ ¬ SubmitFits m ⟨4, 2, 4⟩) ∧
      (∀ m ∈ [{ submitRead with kind := 2 }, { submitRead with kind := 4, count := 0 }],
        SubmitLegal m ∧ SubmitFits m ⟨4, 2, 4⟩) ∧
      ((alone { unitIn .ready with lines := ⟨true, true, true⟩ }).spindle 0).lines.wpr = true := by
  unfold SubmitLegal SubmitFits
  decide

theorem witness_SubmitAdmitted :
    (∀ st ∈ [SpindleState.parked, .spinWait, .spinningUp, .ready, .spinningDown],
      ((submitTo st submitRead).spindle 0).geometry = some ⟨4, 2, 4⟩ ∧
        ((submitTo st submitRead).spindle 0).lines.wpr = false) ∧
      SubmitFits submitRead ⟨4, 2, 4⟩ ∧ kindByte .read = submitRead.kind ∧
      SubmitFits { submitRead with cylinder := 3, surface := 1, sector := 3 } ⟨4, 2, 4⟩ := by
  unfold SubmitFits
  decide

/-- WDATA's fields, with a payload of whatever length. -/
def wdataOf (tag : Byte) (index : Half) : WdataFields := ⟨tag, index, List.replicate 1024 0⟩

/-- A state that hears that WDATA. -/
def staging (tag : Byte) (index : Half) (s : State) : State :=
  { s with inbound := [⟨2, 7, tag :: (index.extractLsb' 0 8 :: index.extractLsb' 8 8 :: List.replicate 1024 0)⟩] }

theorem staging_heard (tag : Byte) (index : Half) (s : State) (h0 : s.inReset = false) (h1 : s.restart = none)
    (h2 : s.replies = []) (h3 : s.stream = []) :
    (staging tag index s).canHandle (.wdata 7 (.fields (wdataOf tag index))) = true := by
  have hb : halfOf (index.extractLsb' 0 8) (index.extractLsb' 8 8) = index := by
    simp only [halfOf]
    ext i hi
    simp only [BitVec.getElem_append, BitVec.getElem_extractLsb']
    split <;> simp [BitVec.getLsbD_eq_getElem, hi]
    next hlt => rw [BitVec.getLsbD_eq_getElem (by omega)]; congr 1; omega
  simp [staging, State.canHandle, decodeFrame, wdataBody, wdataOf, State.streamDones, h0, h1, h2, h3, hb]

theorem witness_WdataJudged :
    let w := request 3 .write .held
    let s := { alone (unitIn .ready) with table := [w] }
    (31 < (32 : Byte).toNat ∧ 255 < (256 : Half).toNat) ∧ s.request 3 = some w ∧ s.request 31 = none ∧
      (0 : Half).toNat = w.frontier ∧ w.staged.length < s.params.stageDepth ∧ s.params.readReserve < s.free ∧
      (1 : Half).toNat ≠ w.frontier ∧ w.frontier < w.count ∧
      ({ w with frontier := 3 } : Request).count ≤ ({ w with frontier := 3 } : Request).frontier ∧ (request 3 .read .queued).kind ≠ .write ∧
      ({ w with cancelPending := true } : Request).cancelPending = true ∧ ({ s with free := 2 } : State).free ≤ 2 ∧
      s.inReset = false ∧ s.restart = none ∧ s.replies = [] ∧ s.stream = [] := by decide

theorem witness_CancelJudged :
    (∀ ph ∈ [Phase.search, .formatWait, .formatWrite false, .formatWrite true, .pass none],
      let s := hearing (.cancel 7 (.fields 3)) (busy (engagement ph) (request 3 .read .active))
      s.canHandle (.cancel 7 (.fields 3)) = true ∧ s.request 3 = some (request 3 .read .active) ∧
        s.chan = some (engagement ph)) ∧
      (∀ b ∈ [(31 : Byte), 32], (hearing (.cancel 7 (.fields b)) State.reset).canHandle (.cancel 7 (.fields b)) = true) ∧
      State.reset.request 31 = none ∧ 31 < (32 : Byte).toNat := by decide

theorem witness_Completion :
    let s := busy (engagement .search) (request 3 .read .active)
    s.request 3 = some (request 3 .read .active) ∧ s.admissionList.Nodup ∧ s.request 4 = none := by decide

theorem witness_Release :
    let s := busy (engagement .search) (request 3 .read .active)
    s.chan = some (engagement .search) ∧ s.request (engagement .search).tag = some (request 3 .read .active) ∧
      (request 3 .read .active).status = .active ∧ s.admissionList.Nodup ∧
      (request 3 .read .active).cancelPending = false ∧
      ({ request 3 .read .active with cancelPending := true } : Request).cancelPending = true := by decide

/-! Scheduling -/

/-- Spindle 0 READY with its arm settled at cylinder 1, and requests in its view. -/
def view (table : List Request) : State := { alone (unitIn .ready) with table := table }

/-- A QUEUED READ with its next address on a cylinder. -/
def queuedAt (t : Tag) (c : Nat) : Request := { request t .read .queued with next := ⟨c, 0, 0⟩ }

theorem witness_SeekChoices :
    let urgent := { queuedAt 4 3 with flags := ⟨false, true, false, false, false⟩ }
    let overdue := { queuedAt 5 3 with overdue := true }
    ∀ table ∈ [[], [queuedAt 3 1], [queuedAt 3 2, queuedAt 4 0], [queuedAt 3 2, urgent], [queuedAt 3 1, overdue]],
      ((view table).spindle 0).state = .ready ∧ ((view table).spindle 0).tracker.tracked = true ∧
        ((view table).spindle 0).arm = .settled 1 ∧ (∀ q ∈ (view table).table, q.spindle = 0 → q.status ≠ .active) ∧
        (view table).choiceHold = false := by decide

theorem witness_SeekChoices_none :
    ((alone (unitIn .parked)).spindle 0).state ≠ .ready ∧
      ({ State.reset with choiceHold := true } : State).choiceHold = true := by decide

theorem witness_ChannelChoice :
    let urgent := { queuedAt 4 1 with flags := ⟨false, true, false, false, false⟩ }
    let overdue := { queuedAt 5 1 with overdue := true }
    ∀ table ∈ [[queuedAt 3 1], [queuedAt 3 1, urgent], [queuedAt 3 1, urgent, overdue]],
      (view table).admissionList.Nodup ∧ (view table).chan = none ∧ ∀ q ∈ table, (view table).IsCandidate q := by
  unfold State.IsCandidate
  decide

/-! The Channel -/

theorem witness_HeaderReads :
    let s := busy (engagement .search) (request 3 .read .active)
    s.inReset = false ∧ s.chan = some (engagement .search) ∧ s.request 3 = some (request 3 .read .active) ∧
      (engagement .search).slotMarked = true ∧ ({ engagement .search with slotMarked := false } : Engagement).slotMarked = false ∧
      classifyHeader (some (0x00010000, 0x80000002, 0x7FFEFFFD)) = .formatted ⟨1, 0, 2⟩ ∧
      classifyHeader (some (0x00010000, 0x80000001, 0x7FFEFFFE)) = .formatted ⟨1, 0, 1⟩ ∧
      classifyHeader (some (0x00020000, 0x80000002, 0x7FFDFFFD)) = .formatted ⟨2, 0, 2⟩ ∧
      classifyHeader none = .invalid ∧ s.free ≠ 0 ∧ (engagement .search).searchIndex < s.params.revLimit ∧
      s.params.revLimit ≤ ({ engagement .search with searchIndex := 3 } : Engagement).searchIndex ∧
      ({ engagement (.pass none) with lastJudged := true } : Engagement).lastJudged = true ∧
      (engagement (.pass none)).lastJudged = false ∧
      ({ request 3 .write .active with staged := [buffer 0] } : Request).staged = [buffer 0] ∧
      (s.spindle 0).lines.wpr = false ∧ (engagement (.pass none)).phase = .pass none ∧ State.reset.chan = none := by decide

theorem witness_ReadFieldEnds :
    (∀ ph ∈ [Phase.readField 2 2, .verifyField 2 2],
      (busy (engagement ph) (request 3 .read .active)).chan = some (engagement ph) ∧
        (busy (engagement ph) (request 3 .read .active)).inReset = false) ∧
      (some 3 : Option Word) = some (checkWord [1] 2) ∧ none ≠ some (checkWord [1] 2) ∧
      (request 3 .read .active).budget ≠ 0 ∧ ({ request 3 .read .active with budget := 0 } : Request).budget = 0 := by decide

theorem witness_WriteFieldEnds :
    let s := busy (engagement (.writeField 2 2 (buffer 0))) (request 3 .write .active)
    s.inReset = false ∧ s.chan = some (engagement (.writeField 2 2 (buffer 0))) ∧
      s.request 3 = some (request 3 .write .active) ∧ s.stopRequest = false ∧ stopping.stopRequest = true ∧
      (request 3 .write .active).flags.verifyAfter = false := by decide

theorem witness_SectorDecisions :
    let e := { engagement .search with index := 2 }
    let r := request 3 .read .active
    let s := busy e r
    s.chan = some e ∧ s.request e.tag = some r ∧ s.addressOfIndex r 2 = ⟨1, 1, 0⟩ ∧
      s.addressOfIndex { r with start := ⟨1, 1, 2⟩ } 2 = ⟨2, 0, 0⟩ ∧ s.addressOfIndex r 1 = ⟨1, 0, 3⟩ ∧ e.index ≠ r.count ∧
      ({ e with index := 3 } : Engagement).index = r.count ∧ e.burst < s.params.burstLimit ∧
      s.params.burstLimit ≤ ({ e with burst := 64 } : Engagement).burst := by decide

theorem witness_Endings :
    let e := { engagement .search with pending := [⟨0, buffer 0, 0⟩] }
    (busy e (request 3 .write .active)).chan = some e ∧ e.pending = ⟨0, buffer 0, 0⟩ :: [] ∧
      (engagement .search).pending = [] ∧ (request 3 .write .active).staged = [] ∧
      (request 3 .read .active).kind ≠ .write ∧ (request 3 .read .active).budget ≠ 0 ∧
      ((busy e (request 3 .write .active)).spindle 0).state = .ready := by decide

theorem witness_VerifyPass :
    let e := { engagement (.pass (some (2, 2))) with index := 1, pending := [⟨0, buffer 0, 3⟩], deferred := some .runEnd }
    let s := busy e (request 3 .write .active)
    s.inReset = false ∧ s.chan = some e ∧ s.request 3 = some (request 3 .write .active) ∧ s.admissionList.Nodup ∧
      e.pending = ⟨0, buffer 0, 3⟩ :: [] ∧ checkWord [1] 2 = 3 ∧ checkWord [2] 2 ≠ 3 ∧ s.stopRequest = false := by decide

theorem witness_FormatSlots :
    ∀ gate ∈ [true, false],
      let s := busy (engagement (.formatWrite gate)) (request 3 .format .active)
      s.inReset = false ∧ s.chan = some (engagement (.formatWrite gate)) ∧
        s.request 3 = some (request 3 .format .active) ∧ s.admissionList.Nodup ∧ s.stopRequest = false ∧
        (request 3 .format .active).done + 1 ≠ (request 3 .format .active).count ∧
        ({ request 3 .format .active with done := 2 } : Request).done + 1 = (request 3 .format .active).count := by decide

/-! Media, addresses and frames -/

theorem witness_MediaFormat :
    (0x7FFEFFFD : Word) = ~~~ ((0x00010000 : Word) ^^^ 0x80000002) ∧ (0x80000002 : Word).getLsbD 31 = true ∧
      (0x00000002 : Word).getLsbD 31 = false ∧ (65535 : Nat) < 65536 ∧
      (blankSlot 0).data.length = 256 ∧ (List.replicate 1024 (0 : Byte)).length = 1024 ∧ (36 : Nat) ≤ 36 ∧ (36 : Nat) < 37 ∧
      (1067 : Nat) < 1068 ∧ (1068 : Nat) ≤ 1068 ∧ (23 : Nat) < 24 := by
  refine ⟨by decide, by decide, by decide, by decide, by simp [blankSlot], by simp, by decide⟩

theorem witness_Addresses :
    let g : Geometry := ⟨500, 2, 32⟩
    (∀ a ∈ [(⟨100, 0, 30⟩ : Addr), ⟨100, 0, 31⟩, ⟨499, 1, 31⟩], g.contains a = true) ∧
      g.linear ⟨499, 1, 31⟩ + 1 ≤ g.total ∧ g.linear ⟨499, 1, 30⟩ + 1 < g.total ∧ 31 < g.sectors := by decide

theorem witness_FramesAndCommandsAgree :
    (Instr.submit 7 (.fields submitRead)).wellFormed = true ∧ (Instr.submit 7 (.fields submitRead)).isMessage = true ∧
      (⟨0x0A, 7, []⟩ : Frame).body.length ≤ 1040 := by decide

/-! Invariants: a state in mid-work that meets every one of them, with a command waiting -/

/-- Spindle 0 reads for tag 3; a WRITE of spindle 1, tag 5, waits for its spindle with one sector staged; one RDATA is in
transmission and one in the Stream. -/
def midWork : State :=
  { (alone (unitIn .ready)).setSpindle 1 (unitIn .spinWait) with
    pending := [.sectorMark 0]
    waitList := [1]
    activity := [0]
    params := { Params.defaults with spinLimit := 1 }
    table :=
      [request 3 .read .active,
        { request 5 .write .held with
          spindle := 1, holds := ⟨true, false, false, false⟩, frontier := 1, staged := [⟨5, 0, [7]⟩] }]
    chan := some (engagement (.readField 2 2))
    free := 20
    stream := [.rdata (buffer 0) 0 ⟨1, 0, 1⟩ false]
    line := some ⟨0x82, 4, [], true⟩
    partSeq := 5
    events := [⟨1, ⟨true, false, false, false, false⟩, .spinWait, none, 2⟩]
    media := [(placeKey 0 1 0 2, ⟨true, some (formatHeader ⟨1, 0, 2⟩), true, [], none, true⟩)] }

/-- The step of that state has a next state. -/
theorem midWork_steps : ∃ t, step midWork = .next t := ⟨_, rfl⟩

theorem midWork_waitListExact : midWork.WaitListExact := by
  unfold State.WaitListExact
  decide

theorem midWork_timersSound : midWork.TimersSound := by
  unfold State.TimersSound
  decide

theorem midWork_tagsDistinct : midWork.TagsDistinct := by
  unfold State.TagsDistinct
  decide

theorem midWork_paramsInRange : midWork.ParamsInRange := by
  intro id
  cases id <;> decide

theorem midWork_engagementExact : midWork.EngagementExact := by
  refine ⟨midWork_tagsDistinct, by decide, ?_⟩
  intro e h
  cases h
  exact ⟨request 3 .read .active, by decide⟩

theorem witness_SpinBudgetKept : midWork.BudgetKept := by
  unfold State.BudgetKept
  decide

theorem witness_BuffersStayAccounted : midWork.BuffersAccounted := ⟨midWork_tagsDistinct, by decide⟩

theorem witness_SpindlesStayConsistent :
    midWork.WaitListExact ∧ midWork.SpindlesConsistent ∧ midWork.FlagsConsistent ∧ midWork.PresenceExact := by
  refine ⟨midWork_waitListExact, ⟨midWork_waitListExact, fun p => ⟨?_, ?_, ?_⟩⟩, ⟨midWork_waitListExact, ?_⟩,
    ⟨midWork_waitListExact, by decide⟩⟩
  · revert p; decide
  · revert p; decide
  · intro g h
    have hg : ∀ p : Port, (midWork.spindle p).geometry = none ∨ (midWork.spindle p).geometry = some ⟨4, 2, 4⟩ := by decide
    rcases hg p with h' | h' <;> rw [h'] at h <;> cases h
    decide
  · unfold Spindle.FlagsMatchState
    decide

theorem witness_ArmsTimersTrackersStaySound :
    midWork.ArmExact ∧ midWork.TimersSound ∧ midWork.TrackersSound ∧ midWork.ActivityOnce := by
  refine ⟨?_, midWork_timersSound, ?_, ?_⟩
  · unfold State.ArmExact
    decide
  · unfold State.TrackersSound
    decide
  · unfold State.ActivityOnce
    decide

theorem midWork_runsSound : midWork.RunsSound := by
  refine ⟨midWork_engagementExact, ?_, ?_⟩
  · unfold State.RunSound
    decide
  · intro e r h h'
    cases h
    have hr : midWork.request 3 = some (request 3 .read .active) := by decide
    rw [show (engagement (.readField 2 2)).tag = 3 from rfl, hr] at h'
    cases h'
    refine ⟨rfl, by decide, by decide, by decide, by decide, by decide, ?_, ?_, ?_⟩
    · intro w0 slot b h; cases h
    · rintro ⟨_, h⟩; cases h
    · intro _; decide

theorem witness_EngagementStaysExact :
    midWork.TagsDistinct ∧ midWork.EngagementExact ∧ midWork.EngagedReady ∧ midWork.CountsSound ∧ midWork.RunsSound := by
  refine ⟨midWork_tagsDistinct, midWork_engagementExact,
    ⟨midWork_waitListExact, midWork_engagementExact, midWork_timersSound, ?_⟩, ⟨midWork_paramsInRange, by decide⟩,
    midWork_runsSound⟩
  intro e h
  cases h
  decide

theorem witness_HoldsStayExact : midWork.HoldsExact := by
  refine ⟨midWork_engagementExact, ?_⟩
  unfold State.HoldsRight
  decide

theorem witness_QueuesAndRecordsStaySound :
    midWork.ParamsInRange ∧ midWork.RestartSound ∧ midWork.InboundBounded ∧ midWork.RepliesBounded ∧ midWork.DonesBounded ∧
      midWork.EventsSound ∧ midWork.NoticeSound ∧ midWork.MediaSound := by
  refine ⟨midWork_paramsInRange, ?_, ?_, ?_, ⟨midWork_tagsDistinct, by decide⟩, ?_, ?_, ?_⟩
  · unfold State.RestartSound
    decide
  · refine ⟨by decide, ?_, ?_⟩ <;> intros <;> contradiction
  · unfold State.RepliesBounded
    decide
  · unfold State.EventsSound
    decide
  · unfold State.NoticeSound
    decide
  · unfold State.MediaSound
    decide

end Sys2Proof.Tests
end

section
/-! Addresses (O51: R7, R8, R9, R54). An address whose surface and sector exist is the two-digit remainder of its linear number, with
bases H and S; the successor adds one with carry and keeps both digits in range, also where the cylinder has run past the spindle's
last. The facts about runs follow by one induction, and only "lies within the geometry" looks at the cylinder. -/

namespace Sys2Proof.Machine

/-- R7: an address lies within a geometry when each of its three parts does. -/
theorem Geometry.contains_iff (g : Geometry) (a : Addr) :
    g.contains a = true ↔ a.cylinder < g.cylinders ∧ a.surface < g.surfaces ∧ a.sector < g.sectors := by
  simp [Geometry.contains, and_assoc]

/-! R8: the three cases of the successor -/

theorem Geometry.successor_withinTrack {g : Geometry} {a : Addr} (hs : a.sector + 1 < g.sectors) :
    g.successor a = ⟨a.cylinder, a.surface, a.sector + 1⟩ := by
  simp [Geometry.successor, hs]

theorem Geometry.successor_trackCrossing {g : Geometry} {a : Addr} (hs : a.sector + 1 = g.sectors)
    (hh : a.surface + 1 < g.surfaces) : g.successor a = ⟨a.cylinder, a.surface + 1, 0⟩ := by
  simp [Geometry.successor, hs, hh]

theorem Geometry.successor_cylinderCrossing {g : Geometry} {a : Addr} (hs : a.sector + 1 = g.sectors)
    (hh : a.surface + 1 = g.surfaces) : g.successor a = ⟨a.cylinder + 1, 0, 0⟩ := by
  simp [Geometry.successor, hs, hh]

/-- The track of an address exists on every cylinder and the sector on every track; the cylinder may be any number, as it is after the
last address of a spindle. -/
def Geometry.OnTrack (g : Geometry) (a : Addr) : Prop := a.surface < g.surfaces ∧ a.sector < g.sectors

theorem Geometry.OnTrack.of_contains {g : Geometry} {a : Addr} (h : g.contains a = true) : g.OnTrack a :=
  ((g.contains_iff a).mp h).2

theorem Geometry.OnTrack.successor {g : Geometry} {a : Addr} (h : g.OnTrack a) : g.OnTrack (g.successor a) := by
  obtain ⟨hh, hs⟩ := h
  rcases Nat.lt_or_eq_of_le hs with hin | hlast
  · rw [Geometry.successor_withinTrack hin]
    exact ⟨hh, hin⟩
  · rcases Nat.lt_or_eq_of_le hh with hin | hlow
    · rw [Geometry.successor_trackCrossing hlast hin]
      exact ⟨hin, Nat.zero_lt_of_lt hs⟩
    · rw [Geometry.successor_cylinderCrossing hlast hlow]
      exact ⟨Nat.zero_lt_of_lt hh, Nat.zero_lt_of_lt hs⟩

/-- R8: "The successor of an address is the address whose linear number is one greater": a crossing carries into the next digit. -/
theorem Geometry.linear_successor {g : Geometry} {a : Addr} (h : g.OnTrack a) :
    g.linear (g.successor a) = g.linear a + 1 := by
  obtain ⟨hh, hs⟩ := h
  rcases Nat.lt_or_eq_of_le hs with hin | hlast
  · rw [Geometry.successor_withinTrack hin]
    simp only [Geometry.linear, Nat.add_assoc]
  · rcases Nat.lt_or_eq_of_le hh with hin | hlow
    · rw [Geometry.successor_trackCrossing hlast hin]
      simp only [Geometry.linear, ← hlast, Nat.succ_eq_add_one]
      rw [Nat.add_zero, ← Nat.add_assoc, Nat.succ_mul, Nat.add_assoc]
    · rw [Geometry.successor_cylinderCrossing hlast hlow]
      simp only [Geometry.linear, ← hlast, ← hlow, Nat.succ_eq_add_one]
      rw [Nat.add_zero, Nat.add_zero, Nat.succ_mul, ← Nat.add_assoc, Nat.succ_mul, Nat.add_assoc]

/-- A number written with a last digit `r` in base `n` lies below a multiple of the base exactly when its leading part does. -/
theorem mul_add_digit_lt_mul_iff {n r : Nat} (q m : Nat) (hr : r < n) : q * n + r < m * n ↔ q < m := by
  rw [← Nat.div_lt_iff_lt_mul (Nat.zero_lt_of_lt hr), Nat.mul_comm q n, Nat.mul_add_div (Nat.zero_lt_of_lt hr),
    Nat.div_eq_of_lt hr, Nat.add_zero]

/-- R7, R8: the linear numbers below C×H×S are those of the addresses within the geometry. -/
theorem Geometry.linear_lt_total_iff {g : Geometry} {a : Addr} (h : g.OnTrack a) :
    g.linear a < g.total ↔ g.contains a = true := by
  obtain ⟨hh, hs⟩ := h
  calc g.linear a < g.total
      ↔ a.cylinder * g.surfaces + a.surface < g.cylinders * g.surfaces := mul_add_digit_lt_mul_iff _ _ hs
    _ ↔ a.cylinder < g.cylinders := mul_add_digit_lt_mul_iff _ _ hh
    _ ↔ g.contains a = true := by simp [Geometry.contains_iff, hh, hs]

/-! R9: the addresses of a run -/

theorem Geometry.OnTrack.addressAt {g : Geometry} {a : Addr} (h : g.OnTrack a) (k : Nat) : g.OnTrack (g.addressAt a k) := by
  induction k with
  | zero => exact h
  | succ k ih => exact ih.successor

theorem Geometry.linear_addressAt {g : Geometry} {a : Addr} (h : g.OnTrack a) (k : Nat) :
    g.linear (g.addressAt a k) = g.linear a + k := by
  induction k with
  | zero => rfl
  | succ k ih => rw [Geometry.addressAt, Geometry.linear_successor (h.addressAt k), ih, Nat.add_assoc]

/-! R54: rotational distance -/

/-- The distance in natural numbers: the slots left to the end of the revolution after slot `c`, and `t` more, modulo the revolution. -/
theorem rotationalDistance_eq_mod {n c : Nat} (t : Nat) (hc : c < n) :
    rotationalDistance n c t = (t + (n - 1 - c)) % n := by
  have hshift : (t : Int) - c - 1 + n = ((t + (n - 1 - c) : Nat) : Int) := by omega
  rw [rotationalDistance, ← Int.add_emod_right, hshift, ← Int.natCast_emod, Int.toNat_natCast]

/-- A target ahead of the tracker begins in this revolution. -/
theorem rotationalDistance_ahead {n c t : Nat} (hct : c < t) (ht : t < n) : rotationalDistance n c t = t - (c + 1) := by
  have hturn : t + (n - 1 - c) = t - (c + 1) + n := by omega
  rw [rotationalDistance_eq_mod t (Nat.lt_trans hct ht), hturn, Nat.add_mod_right, Nat.mod_eq_of_lt (by omega)]

/-- A target at or behind the tracker begins only after the next index mark. -/
theorem rotationalDistance_behind {n c t : Nat} (htc : t ≤ c) (hc : c < n) :
    rotationalDistance n c t = t + (n - 1 - c) := by
  rw [rotationalDistance_eq_mod t hc, Nat.mod_eq_of_lt (by omega)]

/-- The slot after the last is slot 0, with the index mark. -/
theorem nextSlot_eq_ite {n c : Nat} (hc : c < n) : (c + 1) % n = if c + 1 = n then 0 else c + 1 := by
  split
  · next hlast => rw [hlast, Nat.mod_self]
  · next hin => exact Nat.mod_eq_of_lt (by omega)

/-- R54: the distance is 0 for the next slot to begin, and for no other. -/
theorem rotationalDistance_eq_zero_iff {n c t : Nat} (hc : c < n) (ht : t < n) :
    rotationalDistance n c t = 0 ↔ t = (c + 1) % n := by
  rw [nextSlot_eq_ite hc]
  rcases Nat.lt_or_ge c t with hct | htc
  · rw [rotationalDistance_ahead hct ht]
    split <;> omega
  · rw [rotationalDistance_behind htc hc]
    split <;> omega

/-- R54: the distance is S−1 for the slot now passing, and for no other. -/
theorem rotationalDistance_eq_last_iff {n c t : Nat} (hc : c < n) (ht : t < n) :
    rotationalDistance n c t = n - 1 ↔ t = c := by
  rcases Nat.lt_or_ge c t with hct | htc
  · rw [rotationalDistance_ahead hct ht]
    omega
  · rw [rotationalDistance_behind htc hc]
    omega

/-- Settles O51: an address within the geometry is on a track, which the successor keeps while it adds one to the linear number (R8);
runs follow by induction (R9), and rotational distance by whether the target is ahead of the tracker (R54). -/
theorem addresses : Obligations.Addresses := by
  unfold Obligations.Addresses
  intro g a ha
  have hon : g.OnTrack a := .of_contains ha
  refine ⟨Geometry.successor_withinTrack, Geometry.successor_trackCrossing, Geometry.successor_cylinderCrossing,
    Geometry.linear_successor hon, Geometry.linear_lt_total_iff hon.successor, ?run, ?runContained, ?distance⟩
  case run => exact fun k _ => Geometry.linear_addressAt hon k
  case runContained =>
    intro k hk
    rwa [← Geometry.linear_lt_total_iff (hon.addressAt k), Geometry.linear_addressAt hon k]
  case distance =>
    exact fun c t hc ht => ⟨rotationalDistance_eq_mod t hc, rotationalDistance_eq_zero_iff hc ht,
      rotationalDistance_eq_last_iff hc ht⟩

end Sys2Proof.Machine
end

section
/-! SPIN_DOWN (O23: R17, R21, R30, R41). A change of one spindle's state is one equation on the state and one on the spindle's record.
With requests in the table SPIN_DOWN is refused BUSY, and without them a state change leaves the table alone, so that each state's clause
reads off what the judgement answers there. -/

namespace Sys2Proof.Machine

/-! Spindle ports -/

/-- R17: a spindle number outside 0 to 7 is refused before anything else is judged. -/
theorem judgeUnit_badField {n : Byte} (h : 7 < n.toNat) (act : Port → State → Judged) (s : State) :
    judgeUnit n act s = refuse .badField s := by
  have hport : portOf n = none := dif_neg (by omega)
  simp only [judgeUnit, hport]

theorem judgeUnit_port {n : Byte} {p : Port} (h : n.toNat = p.val) (act : Port → State → Judged) (s : State) :
    judgeUnit n act s = act p s := by
  have hport : portOf n = some p := by simp only [portOf, h, p.isLt, dite_true, Fin.eta]
  simp only [judgeUnit, hport]

@[simp] theorem State.popInbound_requestCount (s : State) (p : Port) : s.popInbound.requestCount p = s.requestCount p :=
  State.requestCount_congr (by simp) p

/-- A change of one spindle's records: what it makes of them, and its frame. -/
theorem State.modSpindle_changes (s : State) (p : Port) (f : Spindle → Spindle) :
    s.modSpindle p f = { s with spindles := (s.modSpindle p f).spindles } ∧
    (s.modSpindle p f).spindle p = f (s.spindle p) ∧ ∀ q : Port, q ≠ p → (s.modSpindle p f).spindle q = s.spindle q :=
  ⟨rfl, s.spindle_modSpindle_same p f, fun q hq => by rw [State.spindle_modSpindle, if_neg hq.symm]⟩

theorem State.modSpindle_modSpindle (s : State) (p : Port) (f g : Spindle → Spindle) :
    (s.modSpindle p f).modSpindle p g = s.modSpindle p (g ∘ f) := by
  simp [State.modSpindle, State.setSpindle, State.spindle]

/-- A change of one spindle's records depends on what it makes of the records that stand there. -/
theorem State.modSpindle_congr {s : State} {p : Port} {f g : Spindle → Spindle} (h : f (s.spindle p) = g (s.spindle p)) :
    s.modSpindle p f = s.modSpindle p g := by
  rw [State.modSpindle, State.modSpindle, h]

/-- R21: the pinned flag cleared. -/
theorem State.unpin_changes (s : State) (p : Port) :
    s.unpin p = { s with spindles := (s.unpin p).spindles } ∧ (s.unpin p).spindle p = { s.spindle p with pinned := false } ∧
    ∀ q : Port, q ≠ p → (s.unpin p).spindle q = s.spindle q :=
  s.modSpindle_changes p _

/-! R41: a change of a spindle's state -/

theorem State.enterState_spindle_same (s : State) (p : Port) (st : SpindleState) :
    (s.enterState p st).spindle p = (s.spindle p).enter st := by
  unfold State.enterState
  dsimp only
  split <;> simp

theorem State.enterState_spindle_of_ne (s : State) {p q : Port} (st : SpindleState) (h : q ≠ p) :
    (s.enterState p st).spindle q = s.spindle q := by
  unfold State.enterState
  dsimp only
  split <;> simp [State.spindle_modSpindle, h.symm]

/-- R25, R84, R187: beside the spindle's records, a state change touches the wait list, the requests' SPINDLE and the Event Queue. -/
theorem State.enterState_eq (s : State) (p : Port) (st : SpindleState) :
    s.enterState p st = { s with
      spindles := (s.enterState p st).spindles
      waitList := if (s.spindle p).state = .spinWait ∧ st ≠ .spinWait then s.waitList.filter (· != p) else s.waitList
      table := s.table.map
        (Request.spindleEvaluated p (!(st == .ready && ((s.spindle p).enter st).tracker.tracked)))
      events := stateChangePosted p st (if st = .faulted then (s.spindle p).cause else none) s.events } := by
  unfold State.enterState
  dsimp only
  split <;>
  · simp only [State.post, State.evalSpindleHold_spindle, State.spindle_modSpindle_same, State.setWaitList_spindle]
    simp only [State.evalSpindleHold_eq, State.spindleHold, State.spindle_modSpindle_same, State.setWaitList_spindle]
    rfl

/-- R84: without requests of the spindle there is nothing to evaluate. -/
theorem State.map_spindleEvaluated_idle {s : State} {p : Port} (h : s.requestCount p = 0) (held : Bool) :
    s.table.map (Request.spindleEvaluated p held) = s.table := by
  have hnone : ∀ r ∈ s.table, r.spindle ≠ p := by
    simpa [State.requestCount, State.requestsOf] using h
  calc s.table.map (Request.spindleEvaluated p held)
      = s.table.map id := List.map_congr_left fun r hr => if_neg (hnone r hr)
    _ = s.table := List.map_id _

/-! R21: the judgement of a SPIN_DOWN, by the state it finds -/

section
variable {s : State} {p : Port}

theorem judgeSpinDown_busy (h : s.requestCount p ≠ 0) : judgeSpinDown p s = refuse .busy s := if_pos h

theorem judgeSpinDown_wrongState (hidle : s.requestCount p = 0)
    (h : (s.spindle p).state = .unconfigured ∨ (s.spindle p).state = .absent ∨ (s.spindle p).state = .faulted) :
    judgeSpinDown p s = refuse .wrongState s := by
  rcases h with h | h | h <;> simp [judgeSpinDown, hidle, h]

/-- In PARKED and in SPINNING_DOWN flags alone change, which is one change of the spindle's records. -/
theorem judgeSpinDown_flags (hidle : s.requestCount p = 0)
    (h : (s.spindle p).state = .parked ∨ (s.spindle p).state = .spinningDown) :
    judgeSpinDown p s = accept (s.modSpindle p fun r =>
      { r with pinned := false, respin := if r.state = .spinningDown then false else r.respin }) := by
  rcases h with h | h <;> simp only [judgeSpinDown, hidle, h, ne_eq, not_true, if_false, State.unpin]
  · exact congrArg accept (State.modSpindle_congr (by simp [h]))
  · rw [State.modSpindle_modSpindle]
    exact congrArg accept (State.modSpindle_congr (by simp [h]))

theorem judgeSpinDown_spinWait (hidle : s.requestCount p = 0) (h : (s.spindle p).state = .spinWait) :
    judgeSpinDown p s = accept ((s.unpin p).enterState p .parked) := by
  simp [judgeSpinDown, hidle, h]

theorem judgeSpinDown_spinning (hidle : s.requestCount p = 0)
    (h : (s.spindle p).state = .spinningUp ∨ (s.spindle p).state = .ready) :
    judgeSpinDown p s = accept ((s.unpin p).enterSpinningDown p) := by
  rcases h with h | h <;> simp [judgeSpinDown, hidle, h]

/-- R21, R25: a waiting spindle without requests leaves the wait list for PARKED, where its timers already stand as they should. -/
theorem State.unpin_enterParked (hidle : s.requestCount p = 0) (hwait : (s.spindle p).state = .spinWait)
    (htimers : s.TimersSound) :
    (s.unpin p).enterState p .parked = { s with
      spindles := ((s.unpin p).enterState p .parked).spindles
      waitList := s.waitList.filter (· != p)
      events := stateChangePosted p .parked none s.events } ∧
    ((s.unpin p).enterState p .parked).spindle p = { s.spindle p with state := .parked, pinned := false } ∧
    ∀ q : Port, q ≠ p → ((s.unpin p).enterState p .parked).spindle q = s.spindle q := by
  obtain ⟨hup, hdown, -⟩ := htimers p
  have hnoUp : (s.spindle p).spinUpTimer = none := by simpa [hwait] using hup
  have hnoDown : (s.spindle p).spinDownTimer = none := by simpa [hwait] using hdown
  obtain ⟨-, hunpin, hothers⟩ := s.unpin_changes p
  refine ⟨?frame, ?record, fun q hq => ?others⟩
  case frame =>
    rw [State.enterState_eq, State.map_spindleEvaluated_idle ((State.requestCount_congr (by simp) p).trans hidle), hunpin]
    simp [hwait]
  case record =>
    rw [State.enterState_spindle_same, hunpin]
    simp [Spindle.enter, hwait, hnoUp, hnoDown, SpindleState.spinning]
  case others => rw [State.enterState_spindle_of_ne _ _ hq, hothers q hq]

end

/-! R17, R169: the message -/

section
variable {s v : State} {seq n : Byte}

theorem spinDown_refused {code : Code} (hcan : s.canHandle (.spinDown seq n) = true)
    (hj : judgeUnit n judgeSpinDown s.popInbound = refuse code s.popInbound) : Refused (.spinDown seq n) s 0x04 seq code :=
  handle_refuse _ _ _ _ _ _ hcan hj

theorem spinDown_accepted (hcan : s.canHandle (.spinDown seq n) = true)
    (hj : judgeUnit n judgeSpinDown s.popInbound = accept v) : Accepted (.spinDown seq n) s 0x04 seq v :=
  handle_accept _ _ _ _ _ _ hcan hj

end

/-- Settles O23: the judgement's clause for each state, carried through the handling of the message; the waiting spindle's state change
is `State.unpin_enterParked`. -/
theorem spinDown : Obligations.SpinDown := by
  unfold Obligations.SpinDown
  intro s seq n hcan
  refine ⟨fun hn => spinDown_refused hcan (judgeUnit_badField hn _ _), fun p hp => ?_⟩
  have refused {code : Code} (hj : judgeSpinDown p s.popInbound = refuse code s.popInbound) :
      Refused (.spinDown seq n) s 0x04 seq code := spinDown_refused hcan ((judgeUnit_port hp _ _).trans hj)
  have accepted {v : State} (hj : judgeSpinDown p s.popInbound = accept v) :
      Accepted (.spinDown seq n) s 0x04 seq v := spinDown_accepted hcan ((judgeUnit_port hp _ _).trans hj)
  rw [← s.popInbound_requestCount p, ← s.popInbound_spindle p]
  refine ⟨fun hbusy => refused (judgeSpinDown_busy hbusy), fun hidle => ⟨?wrongState, ?flags, ?spinWait, ?spinning⟩⟩
  case wrongState => exact fun h => refused (judgeSpinDown_wrongState hidle h)
  case flags => exact fun h => ⟨_, accepted (judgeSpinDown_flags hidle h), State.modSpindle_changes _ _ _⟩
  case spinWait =>
    exact fun h htimers => ⟨_, accepted (judgeSpinDown_spinWait hidle h), State.unpin_enterParked hidle h htimers⟩
  case spinning => exact fun h => ⟨_, accepted (judgeSpinDown_spinning hidle h), State.unpin_changes _ _⟩

end Sys2Proof.Machine
end

section
/-! SETP of AGE_LIMIT and of TRACK_FAULT_LIMIT (O15: R51, R90, R178). A value in range is stored, whatever else it does is one equation on
the state, and the value in force does nothing. -/

namespace Sys2Proof.Machine

/-! R178: a value taken -/

/-- Table 9-9, row by row. -/
theorem inTable99_iff {id : ParamId} {v : Nat} : inTable99 id v ↔ paramInRange v id = true := by
  cases id <;> simp [inTable99, paramRows, paramInRange, and_assoc]

/-- R178: a value in range, not below a count in use, is accepted, and applied when it is another than the one in force. -/
theorem judgeSetp_accept {id : ParamId} {value : Word} {s : State} (hrange : inTable99 id value.toNat)
    (hfree : limitInUse s id value.toNat = false) :
    judgeSetp id value s = accept (if s.params.get id = value.toNat then s else s.applyParam id value.toNat) := by
  simp [judgeSetp, inTable99_iff.mp hrange, hfree, apply_ite accept]

theorem setpAgeLimit_accepted {s : State} {seq : Byte} {value : Word} (hcan : s.canHandle (.setpAgeLimit seq value) = true)
    (hrange : inTable99 .ageLimit value.toNat) :
    Accepted (.setpAgeLimit seq value) s 0x05 seq
      (if s.params.ageLimit = value.toNat then s.popInbound else s.popInbound.applyParam .ageLimit value.toNat) :=
  handle_accept _ _ _ _ _ _ hcan (judgeSetp_accept hrange rfl)

theorem setpTrackFaultLimit_accepted {s : State} {seq : Byte} {value : Word}
    (hcan : s.canHandle (.setpTrackFaultLimit seq value) = true) (hrange : inTable99 .trackFaultLimit value.toNat) :
    Accepted (.setpTrackFaultLimit seq value) s 0x05 seq
      (if s.params.trackFaultLimit = value.toNat then s.popInbound
      else s.popInbound.applyParam .trackFaultLimit value.toNat) :=
  handle_accept _ _ _ _ _ _ hcan (judgeSetp_accept hrange rfl)

/-! R90, R51: a value applied -/

/-- R90: the limit stored, and every request re-timed by it. -/
theorem State.applyAgeLimit_eq (s : State) (limit : Nat) :
    s.applyParam .ageLimit limit = { s with
      params := { s.params with ageLimit := limit }
      table := s.table.map fun r =>
        if r.overdue = true then r
        else if r.admitted + limit * 1000 ≤ s.now then { r with overdue := true, ageTimer := none }
        else { r with ageTimer := some (r.admitted + limit * 1000) } } := rfl

/-- One change made of the records of each of some spindles. -/
theorem State.foldl_modSpindle_spindle (f : Spindle → Spindle) {l : List Port} (hl : l.Nodup) (s : State) (p : Port) :
    (l.foldl (fun u q => u.modSpindle q f) s).spindle p = if p ∈ l then f (s.spindle p) else s.spindle p := by
  induction l generalizing s with
  | nil => rfl
  | cons q l ih =>
    obtain ⟨hq, hl⟩ := List.nodup_cons.mp hl
    rw [List.foldl_cons, ih hl, State.spindle_modSpindle]
    by_cases h : q = p
    · subst h
      rw [if_pos rfl, if_neg hq, if_pos List.mem_cons_self]
    · have hmem : p ∈ q :: l ↔ p ∈ l := by rw [List.mem_cons, or_iff_right (Ne.symm h)]
      simp only [if_neg h, hmem]

/-- R51: every error count lowered to the limit. -/
theorem State.capErrors_spindle (s : State) (limit : Nat) (p : Port) :
    (s.capErrors limit).spindle p =
      { s.spindle p with tracker := { (s.spindle p).tracker with errors := min (s.spindle p).tracker.errors limit } } := by
  rw [State.capErrors, State.foldl_modSpindle_spindle _ (by decide), if_pos (mem_allPorts p)]

/-- A change of some spindles' records changes nothing else. -/
theorem State.foldl_modSpindle_eq (f : Spindle → Spindle) (l : List Port) (s : State) :
    l.foldl (fun u q => u.modSpindle q f) s = { s with spindles := (l.foldl (fun u q => u.modSpindle q f) s).spindles } := by
  induction l generalizing s with
  | nil => rfl
  | cons q l ih => exact ih _

/-- R51: the limit stored, and no record touched but the spindles'. -/
theorem State.applyTrackFaultLimit_eq (s : State) (limit : Nat) :
    s.applyParam .trackFaultLimit limit = { s with
      params := { s.params with trackFaultLimit := limit }
      spindles := (s.applyParam .trackFaultLimit limit).spindles } :=
  State.foldl_modSpindle_eq _ _ _

theorem State.applyTrackFaultLimit_spindle (s : State) (limit : Nat) (p : Port) :
    (s.applyParam .trackFaultLimit limit).spindle p =
      { s.spindle p with tracker := { (s.spindle p).tracker with errors := min (s.spindle p).tracker.errors limit } } := by
  simp [State.applyParam, State.capErrors_spindle]

/-- Settles O15: the value in force leaves the state alone, and another is applied: `State.applyAgeLimit_eq` re-times the table, and
`State.capErrors_spindle` lowers the error counts. -/
theorem setpRetimesAndLowers : Obligations.SetpRetimesAndLowers := by
  unfold Obligations.SetpRetimesAndLowers
  intro s seq value
  refine ⟨fun hcan hrange => ⟨_, setpAgeLimit_accepted hcan hrange, ?age⟩,
    fun hcan hrange => ⟨_, setpTrackFaultLimit_accepted hcan hrange, ?frame, fun p => ?counts⟩⟩
  case age =>
    split
    · next hsame =>
      simp only [← hsame]
      rfl
    · simp [State.applyAgeLimit_eq]
  case frame =>
    split
    · next hsame =>
      simp only [← hsame]
      rfl
    · exact State.applyTrackFaultLimit_eq _ _
  case counts =>
    split
    · exact s.popInbound_spindle p
    · rw [State.applyTrackFaultLimit_spindle, State.popInbound_spindle]

end Sys2Proof.Machine
end

section
/-! The release (O40: R86, R136, R83 to R85). The channel gives its buffers back before the request leaves ACTIVE. That return neither
touches the ACTIVE request nor any reason it is graded by, so the reasons are those of the state before the release. -/

namespace Sys2Proof.Machine

/-! R160: what a return of buffers leaves of a request -/

@[simp] theorem Request.withHolds_flags (r : Request) (h : Holds) : (r.withHolds h).flags = r.flags := by
  unfold Request.withHolds
  split <;> rfl

@[simp] theorem Request.afterReturn_tag (n : Nat) (r : Request) : (r.afterReturn n).tag = r.tag := by
  unfold Request.afterReturn
  split <;> simp

@[simp] theorem Request.afterReturn_spindle (n : Nat) (r : Request) : (r.afterReturn n).spindle = r.spindle := by
  unfold Request.afterReturn
  split <;> simp

@[simp] theorem Request.afterReturn_flags (n : Nat) (r : Request) : (r.afterReturn n).flags = r.flags := by
  unfold Request.afterReturn
  split <;> simp

/-- R84: buffers that return do not touch an ACTIVE request. -/
theorem Request.afterReturn_active {r : Request} (h : r.status = .active) (n : Nat) : r.afterReturn n = r := by
  simp [Request.afterReturn, Request.withHolds, h]

/-! R72, R145: the request of a tag, and the channel closed -/

theorem eq_of_tag_eq {table : List Request} (hd : (table.map (·.tag)).Nodup) {q r : Request} (hq : q ∈ table)
    (hr : r ∈ table) (h : q.tag = r.tag) : q = r := by
  induction table with
  | nil => cases hq
  | cons x rest ih =>
    obtain ⟨hx, hrest⟩ := List.nodup_cons.mp hd
    rcases List.mem_cons.mp hq with hqx | hqrest <;> rcases List.mem_cons.mp hr with hrx | hrrest
    · exact hqx.trans hrx.symm
    · exact absurd (List.mem_map.mpr ⟨r, hrrest, h.symm.trans (congrArg _ hqx)⟩) hx
    · exact absurd (List.mem_map.mpr ⟨q, hqrest, h.trans (congrArg _ hrx)⟩) hx
    · exact ih hrest hqrest hrrest

/-- R72: with the tags distinct, the request of a tag is the only one that carries it. -/
theorem State.eq_request_of_tag {s : State} {t : Tag} {r q : Request} (hd : s.TagsDistinct) (hr : s.request t = some r)
    (hq : q ∈ s.table) (ht : q.tag = t) : q = r :=
  eq_of_tag_eq hd hq (State.request_mem hr) (ht.trans (State.request_tag hr).symm)

@[simp] theorem State.channelClosed_spindle (s : State) (e : Engagement) (p : Port) :
    (s.channelClosed e).spindle p = s.spindle p := rfl

@[simp] theorem State.channelClosed_table (s : State) (e : Engagement) :
    (s.channelClosed e).table = s.table.map (Request.afterReturn e.buffers) := rfl

/-- R84: the ACTIVE request stands as the channel gives its buffers back. -/
theorem State.request_channelClosed {s : State} {e : Engagement} {t : Tag} {r : Request} (hr : s.request t = some r)
    (hactive : r.status = .active) : (s.channelClosed e).request t = some r := by
  have hlookup : (s.channelClosed e).request t = (s.request t).map (Request.afterReturn e.buffers) := by
    simp only [State.request, State.channelClosed_table, List.find?_map, Function.comp_def, Request.afterReturn_tag]
  rw [hlookup, hr, Option.map_some, Request.afterReturn_active hactive]

/-- R83 to R85: buffers that return change no reason that a release evaluates. -/
theorem State.releaseHolds_channelClosed (s : State) (e : Engagement) (r : Request) (noBuffer : Bool) :
    (s.channelClosed e).releaseHolds r noBuffer =
      r.reasons (!((s.spindle r.spindle).state == .ready && (s.spindle r.spindle).tracker.tracked)) noBuffer
        (s.table.takeWhile fun q => q.tag != r.tag) := by
  simp [State.releaseHolds, Request.reasons, State.spindleHold, barrierHold, noDataHold, State.olderThan,
    List.takeWhile_map, Function.comp_def]

/-! R86, R136: the release -/

/-- R136: with a cancel pending, a request that is given back completes instead. -/
theorem State.release_cancelled {s : State} {t : Tag} {r : Request} (hr : s.closeChannel.request t = some r)
    (hcancel : r.cancelPending = true) (noBuffer : Bool) :
    s.release t noBuffer = s.closeChannel.complete t .cancelled none := by
  simp [State.release, hr, hcancel]

/-- R86: otherwise it leaves ACTIVE, graded by its four reasons. -/
theorem State.release_regraded {s : State} {t : Tag} {r : Request} (hr : s.closeChannel.request t = some r)
    (hcancel : r.cancelPending = false) (noBuffer : Bool) :
    s.release t noBuffer = s.closeChannel.modRequest t fun q =>
      { q with
        holds := s.closeChannel.releaseHolds r noBuffer
        status := if (s.closeChannel.releaseHolds r noBuffer).held then .held else .queued } := by
  simp [State.release, hr, hcancel, Request.regrade]

/-- Settles O40: the channel's close is `State.closeChannel_eq`, which leaves the ACTIVE request and every reason that the release
evaluates alone; with the tags distinct the record regraded is that request's. -/
theorem release : Obligations.Release := by
  unfold Obligations.Release
  intro s e r noBuffer hchan hr hactive hdistinct
  have hclose : s.closeChannel = s.channelClosed e := State.closeChannel_eq hchan
  have hrequest : s.closeChannel.request e.tag = some r := hclose ▸ State.request_channelClosed hr hactive
  refine ⟨fun hcancel => ?cancelled, fun hcancel h hh => ?released⟩
  case cancelled => rw [State.release_cancelled hrequest hcancel, hclose]
  case released =>
    have hholds : s.closeChannel.releaseHolds r noBuffer = h := by
      rw [hclose, State.releaseHolds_channelClosed, State.request_tag hr, hh]
    rw [State.release_regraded hrequest hcancel, hholds, hclose, State.modRequest, State.channelClosed_table, List.map_map]
    have hrecord : ∀ q ∈ s.table, q.tag = e.tag → q.afterReturn e.buffers = q := fun q hq htag =>
      Request.afterReturn_active (State.eq_request_of_tag hdistinct hr hq htag ▸ hactive) _
    congr 1
    refine List.map_congr_left fun q hq => ?_
    by_cases htag : q.tag = e.tag
    · simp [htag, hrecord q hq htag, Holds.held]
    · simp [htag]

end Sys2Proof.Machine
end

section
/-! The refusals of a SUBMIT (O35: R76 to R79, Table 5-2). Legal fields are exactly those that parse, and each check after the first is
one equation of `submitRefusal`. -/

namespace Sys2Proof.Machine

/-! R76, R175: what a field names -/

theorem tagOf_eq_some_iff {b : Byte} {t : Tag} : tagOf b = some t ↔ b.toNat = t.val := by
  simp only [tagOf, Option.dite_none_right_eq_some, Option.some.injEq, Fin.ext_iff]
  exact ⟨fun ⟨_, h⟩ => h, fun h => ⟨h ▸ t.isLt, h⟩⟩

theorem portOf_eq_some_iff {b : Byte} {p : Port} : portOf b = some p ↔ b.toNat = p.val := by
  simp only [portOf, Option.dite_none_right_eq_some, Option.some.injEq, Fin.ext_iff]
  exact ⟨fun ⟨_, h⟩ => h, fun h => ⟨h ▸ p.isLt, h⟩⟩

/-- Table 9-5: `kindByte` gives the codes that `kindOf` reads. -/
theorem kindOf_eq_some_iff {b : Byte} {k : Kind} : kindOf b = some k ↔ b.toNat = (kindByte k).toNat := by
  constructor
  · intro h
    unfold kindOf at h
    split at h <;> cases h <;> assumption
  · intro h
    cases k <;> simp [kindOf, h, kindByte]

/-- A byte that names a kind carries no other kind's code. -/
theorem toNat_eq_kindByte_iff {b : Byte} {k : Kind} (h : kindOf b = some k) (k' : Kind) :
    b.toNat = (kindByte k').toNat ↔ k = k' := by
  rw [← kindOf_eq_some_iff, h, Option.some.injEq]

theorem exists_kindOf {b : Byte} (hlow : 1 ≤ b.toNat) (hhigh : b.toNat ≤ 4) : ∃ k, kindOf b = some k := by
  have hcode : b.toNat = 1 ∨ b.toNat = 2 ∨ b.toNat = 3 ∨ b.toNat = 4 := by omega
  rcases hcode with h | h | h | h <;> simp [kindOf, h]

/-- R175: the flags byte names flags when its bits 5 to 7 are clear. -/
theorem parseFlags_eq (b : Byte) :
    parseFlags b =
      if b.toNat < 32 then some ⟨b.getLsbD 0, b.getLsbD 1, b.getLsbD 2, b.getLsbD 3, b.getLsbD 4⟩ else none := by
  have hclear : b.extractLsb' 5 3 = 0#3 ↔ b.toNat < 32 := by
    rw [BitVec.toNat_eq, BitVec.extractLsb'_toNat, Nat.shiftRight_eq_div_pow, BitVec.toNat_ofNat]
    omega
  simp only [parseFlags, hclear]

/-! R76: the legal SUBMITs -/

/-- R76: the rules of count, flags and fill word, for a SUBMIT whose kind and flags are known. -/
theorem submitRules_iff {m : SubmitFields} {k : Kind} {f : Flags} (hk : kindOf m.kind = some k)
    (hf : parseFlags m.flags = some f) :
    (countLegal k m.count.toNat && flagsAllowed k f && (m.fill.isNone || k == .format)) = true ↔
      (if m.kind.toNat = 4 then m.count.toNat = 0 else 1 ≤ m.count.toNat ∧ m.count.toNat ≤ 256) ∧
      (m.flags.getLsbD 2 = true → m.kind.toNat = 1 ∨ m.kind.toNat = 3) ∧ (m.flags.getLsbD 3 = true → m.kind.toNat = 2) ∧
      (m.fill.isSome = true → m.kind.toNat = 4) := by
  rw [parseFlags_eq, Option.ite_none_right_eq_some, Option.some.injEq] at hf
  obtain ⟨-, rfl⟩ := hf
  rw [kindOf_eq_some_iff.mp hk]
  cases k <;> simp [countLegal, flagsAllowed, kindByte, and_assoc]

/-- A SUBMIT parses when each of its fields names something and the rules are kept. -/
theorem parseSubmit_of_named {m : SubmitFields} {t : Tag} {k : Kind} {p : Port} {f : Flags} (ht : tagOf m.tag = some t)
    (hk : kindOf m.kind = some k) (hp : portOf m.spindle = some p) (hf : parseFlags m.flags = some f)
    (hrules : (countLegal k m.count.toNat && flagsAllowed k f && (m.fill.isNone || k == .format)) = true) :
    parseSubmit m = some ⟨t, k, p, f, submitStart m, m.count.toNat, m.fill⟩ := by
  simp only [parseSubmit, ht, hk, hp, hf, hrules, if_true]

/-- R76: legal fields parse, to what they name. -/
theorem parseSubmit_of_legal {m : SubmitFields} (h : SubmitLegal m) {t : Tag} {p : Port} (ht : m.tag.toNat = t.val)
    (hp : m.spindle.toNat = p.val) :
    ∃ k f, kindOf m.kind = some k ∧ parseSubmit m = some ⟨t, k, p, f, submitStart m, m.count.toNat, m.fill⟩ := by
  obtain ⟨-, hlow, hhigh, -, hcount, hflags, htolerate, hverify, hfill⟩ := h
  obtain ⟨k, hk⟩ := exists_kindOf hlow hhigh
  have hf := (parseFlags_eq m.flags).trans (if_pos hflags)
  exact ⟨k, _, hk, parseSubmit_of_named (tagOf_eq_some_iff.mpr ht) hk (portOf_eq_some_iff.mpr hp) hf
    ((submitRules_iff hk hf).mpr ⟨hcount, htolerate, hverify, hfill⟩)⟩

/-- R76: only legal fields parse. -/
theorem submitLegal_of_parse {m : SubmitFields} {q : SubmitRequest} (h : parseSubmit m = some q) : SubmitLegal m := by
  unfold parseSubmit at h
  split at h
  · next t k p f ht hk hp hf =>
    obtain ⟨hrules, -⟩ := Option.ite_none_right_eq_some.mp h
    obtain ⟨hcount, htolerate, hverify, hfill⟩ := (submitRules_iff hk hf).mp hrules
    obtain ⟨hflags, -⟩ := Option.ite_none_right_eq_some.mp (parseFlags_eq m.flags ▸ hf)
    have htag := tagOf_eq_some_iff.mp ht
    have hport := portOf_eq_some_iff.mp hp
    have hkind : 1 ≤ m.kind.toNat ∧ m.kind.toNat ≤ 4 := by
      rw [kindOf_eq_some_iff.mp hk]
      cases k <;> decide
    exact ⟨by omega, hkind.1, hkind.2, by omega, hcount, hflags, htolerate, hverify, hfill⟩
  · cases h

theorem parseSubmit_eq_none {m : SubmitFields} (h : ¬ SubmitLegal m) : parseSubmit m = none :=
  Option.eq_none_iff_forall_ne_some.mpr fun _ hq => h (submitLegal_of_parse hq)

/-! R78: the run -/

/-- R9, R78: a run of sectors fits when it begins within the geometry and ends by the spindle's last sector. -/
theorem Geometry.fits_sectors {k : Kind} {n : Nat} (hk : k ≠ .format) (hn : 1 ≤ n) (g : Geometry) (a : Addr) :
    g.fits k a n = true ↔ g.contains a = true ∧ g.linear a + n ≤ g.total := by
  have hfits : g.fits k a n = (g.contains a && decide (g.linear a + n - 1 ≤ g.total - 1)) := by
    cases k
    case format => exact absurd rfl hk
    all_goals rfl
  rw [hfits, Bool.and_eq_true, decide_eq_true_iff]
  refine and_congr_right fun hin => ?_
  have hlast : g.linear a < g.total := (Geometry.linear_lt_total_iff (.of_contains hin)).mpr hin
  omega

/-- R78, of the run that a legal SUBMIT names. -/
theorem Geometry.fits_iff {m : SubmitFields} {k : Kind} (hlegal : SubmitLegal m) (hk : kindOf m.kind = some k) (g : Geometry) :
    g.fits k (submitStart m) m.count.toNat = true ↔ SubmitFits m g := by
  obtain ⟨-, -, -, -, hcount, -⟩ := hlegal
  have hformat : m.kind.toNat = 4 ↔ k = .format := toNat_eq_kindByte_iff hk .format
  unfold SubmitFits
  by_cases h : k = .format
  · subst h
    simp [hformat.mpr rfl, Geometry.fits, Geometry.contains_iff, submitStart, and_assoc]
  · have hcode : m.kind.toNat ≠ 4 := fun h4 => h (hformat.mp h4)
    rw [if_neg hcode] at hcount ⊢
    rw [Geometry.fits_sectors h hcount.1, Geometry.contains_iff, and_assoc, and_assoc]
    rfl

/-- R7, R78: a run fits a spindle that has a geometry which it fits. -/
theorem runFits_eq_true {r : Spindle} {q : SubmitRequest} :
    runFits r q = true ↔ ∃ g, r.geometry = some g ∧ g.fits q.kind q.start q.count = true := by
  simp [runFits, Option.any_eq_true]

/-! Table 5-2: the checks after the first -/

section
variable {s : State} {q : SubmitRequest}

theorem submitRefusal_tagInUse (h : (s.request q.tag).isSome = true) : submitRefusal s q = some .tagInUse := if_pos h

theorem submitRefusal_state {c : Code} (hfree : s.request q.tag = none)
    (h : stateRefusal (s.spindle q.spindle).state = some c) : submitRefusal s q = some c := by
  simp [submitRefusal, hfree, h]

theorem submitRefusal_range (hfree : s.request q.tag = none) (hstate : stateRefusal (s.spindle q.spindle).state = none)
    (h : runFits (s.spindle q.spindle) q = false) : submitRefusal s q = some .range := by
  simp [submitRefusal, hfree, hstate, h]

theorem submitRefusal_writeProtected (hfree : s.request q.tag = none)
    (hstate : stateRefusal (s.spindle q.spindle).state = none) (hfits : runFits (s.spindle q.spindle) q = true)
    (hkind : q.kind = .write ∨ q.kind = .format) (hwpr : (s.spindle q.spindle).lines.wpr = true) :
    submitRefusal s q = some .writeProtected := by
  rcases hkind with h | h <;> simp [submitRefusal, hfree, hstate, hfits, h, hwpr]

end

/-- R77: the states that refuse no SUBMIT. -/
theorem stateRefusal_eq_none {st : SpindleState} (hconfigured : st ≠ .unconfigured) (hpresent : st ≠ .absent)
    (hsound : st ≠ .faulted) : stateRefusal st = none := by
  cases st
  case unconfigured => exact absurd rfl hconfigured
  case absent => exact absurd rfl hpresent
  case faulted => exact absurd rfl hsound
  all_goals rfl

/-! R169, R170: the message -/

section
variable {s : State} {seq : Byte} {m : SubmitFields}

theorem submit_refused {c : Code} (hcan : s.canHandle (.submit seq (.fields m)) = true)
    (hj : judgeSubmit m s.popInbound = refuse c s.popInbound) : Refused (.submit seq (.fields m)) s 0x01 seq c :=
  handle_refuse _ _ _ _ _ _ hcan hj

theorem judgeSubmit_badField (h : ¬ SubmitLegal m) : judgeSubmit m s = refuse .badField s := by
  simp only [judgeSubmit, parseSubmit_eq_none h]

theorem judgeSubmit_refusal {q : SubmitRequest} {c : Code} (hq : parseSubmit m = some q) (hc : submitRefusal s q = some c) :
    judgeSubmit m s = refuse c s := by
  simp only [judgeSubmit, hq, hc]

end

@[simp] theorem State.popInbound_request (s : State) (t : Tag) : s.popInbound.request t = s.request t :=
  State.request_congr (by simp) t

/-- Settles O35: illegal fields do not parse, and legal ones leave the refusal to `submitRefusal`, whose checks are taken in turn. -/
theorem submitRefused : Obligations.SubmitRefused := by
  unfold Obligations.SubmitRefused
  intro s seq m hcan
  refine ⟨fun hillegal => submit_refused hcan (judgeSubmit_badField hillegal), fun hlegal t p ht hp => ?_⟩
  obtain ⟨k, f, hk, hq⟩ := parseSubmit_of_legal hlegal ht hp
  have refused {c : Code} (hc : submitRefusal s.popInbound _ = some c) : Refused (.submit seq (.fields m)) s 0x01 seq c :=
    submit_refused hcan (judgeSubmit_refusal hq hc)
  have hfits (g : Geometry) := Geometry.fits_iff hlegal hk g
  rw [← s.popInbound_request t, ← s.popInbound_spindle p]
  refine ⟨fun hused => refused (submitRefusal_tagInUse hused), fun hfree => ⟨?unconfigured, ?absent, ?faulted, ?run⟩⟩
  case unconfigured => exact fun h => refused (submitRefusal_state hfree (h ▸ rfl))
  case absent => exact fun h => refused (submitRefusal_state hfree (h ▸ rfl))
  case faulted => exact fun h => refused (submitRefusal_state hfree (h ▸ rfl))
  case run =>
    intro hconfigured hpresent hsound
    have hstate := stateRefusal_eq_none hconfigured hpresent hsound
    refine ⟨fun hnone => refused (submitRefusal_range hfree hstate ?range),
      fun g hg hrun hkind hwpr => refused (submitRefusal_writeProtected hfree hstate ?fits ?writes hwpr)⟩
    case range =>
      refine Bool.eq_false_iff.mpr fun hrun => ?_
      obtain ⟨g, hg, hrun⟩ := runFits_eq_true.mp hrun
      exact hnone g hg ((hfits g).mp hrun)
    case fits => exact runFits_eq_true.mpr ⟨g, hg, (hfits g).mpr hrun⟩
    case writes => exact hkind.imp (toNat_eq_kindByte_iff hk .write).mp (toNat_eq_kindByte_iff hk .format).mp

end Sys2Proof.Machine
end

section
/-! The Scheduler (O41: R104, R107 to R112, R58, R62; O42: R113 to R117, R124). Both choices take the first of a list by the same two
readings: `List.find?` for the oldest of a sort, and `firstLeast` for the nearest. A seek choice reads and changes the records of its own
spindle alone, which makes the choices of the arms independent; for the channel, least rank is `State.Nearer`. -/

namespace Sys2Proof.Machine

/-! R111, R115: the first of least measure -/

theorem firstLeast_mem {f : Request → Nat} {l : List Request} {r : Request} (h : firstLeast f l = some r) : r ∈ l := by
  induction l generalizing r with
  | nil => cases h
  | cons x rest ih =>
    unfold firstLeast at h
    split at h
    case h_1 => cases h; exact List.mem_cons_self
    case h_2 q hq =>
      split at h <;> cases h
      · exact List.mem_cons_of_mem _ (ih hq)
      · exact List.mem_cons_self

theorem firstLeast_cons_of_le {f : Request → Nat} {r : Request} {after : List Request} (h : ∀ q ∈ after, f r ≤ f q) :
    firstLeast f (r :: after) = some r := by
  unfold firstLeast
  split
  case h_1 => rfl
  case h_2 q hq => exact if_neg (Nat.not_lt.mpr (h q (firstLeast_mem hq)))

theorem firstLeast_append_cons {f : Request → Nat} {r : Request} {before after : List Request}
    (hbefore : ∀ q ∈ before, f r < f q) (hafter : ∀ q ∈ after, f r ≤ f q) :
    firstLeast f (before ++ r :: after) = some r := by
  induction before with
  | nil => exact firstLeast_cons_of_le hafter
  | cons x rest ih =>
    obtain ⟨hx, hrest⟩ := List.forall_mem_cons.mp hbefore
    simp only [List.cons_append, firstLeast, ih hrest, if_pos hx]

/-- The oldest of a sort: the first in the list of whom a condition holds. -/
theorem find?_append_cons {c : Request → Bool} {r : Request} {before after : List Request} (hr : c r = true)
    (hbefore : ∀ q ∈ before, c q = false) : (before ++ r :: after).find? c = some r :=
  List.find?_eq_some_iff_append.mpr ⟨hr, before, after, rfl, fun q hq => by rw [hbefore q hq]; rfl⟩

theorem find?_eq_none_of_false {c : Request → Bool} {l : List Request} (h : ∀ q ∈ l, c q = false) : l.find? c = none :=
  List.find?_eq_none.mpr fun q hq => Bool.eq_false_iff.mp (h q hq)

theorem cylinderDistance_eq_natAbs (a b : Nat) : cylinderDistance a b = ((a : Int) - b).natAbs := by
  unfold cylinderDistance
  omega

/-! R109 to R111: whom an arm seeks for -/

section
variable {a : Nat} {queued : List Request} {r : Request}

theorem seekChoice_overdue (h : queued.find? (·.overdue) = some r) :
    seekChoice a queued = if r.next.cylinder = a then none else some r := by
  simp only [seekChoice, h]

theorem seekChoice_onCylinder (hnone : queued.find? (·.overdue) = none) (h : ∃ q ∈ queued, q.next.cylinder = a) :
    seekChoice a queued = none := by
  simp [seekChoice, hnone, h]

theorem seekChoice_urgent (hnone : queued.find? (·.overdue) = none) (hoff : ∀ q ∈ queued, q.next.cylinder ≠ a)
    (h : queued.find? (·.flags.urgent) = some r) : seekChoice a queued = some r := by
  simpa [seekChoice, hnone, h] using hoff

theorem seekChoice_nearest (hnone : queued.find? (·.overdue) = none) (hoff : ∀ q ∈ queued, q.next.cylinder ≠ a)
    (hordinary : queued.find? (·.flags.urgent) = none)
    (h : firstLeast (fun q => cylinderDistance q.next.cylinder a) queued = some r) : seekChoice a queued = some r := by
  have hany : (queued.any fun q => q.next.cylinder == a) = false := by simpa using hoff
  simp [seekChoice, hnone, hany, hordinary, h]

end

/-! R108, R112: the choice of one arm -/

theorem State.hasActive_eq_false_iff (s : State) (p : Port) :
    s.hasActive p = false ↔ ∀ q ∈ s.table, q.spindle = p → q.status ≠ .active := by
  simp [State.hasActive]

theorem State.seekEligible_eq_some_iff (s : State) (p : Port) (a : Nat) :
    s.seekEligible p = some a ↔ (s.spindle p).state = .ready ∧ (s.spindle p).tracker.tracked = true ∧
      (∀ q ∈ s.table, q.spindle = p → q.status ≠ .active) ∧ (s.spindle p).arm = .settled a := by
  rw [← s.hasActive_eq_false_iff]
  unfold State.seekEligible
  cases (s.spindle p).arm <;> simp [and_assoc]

theorem State.seekEligible_eq_none {s : State} {p : Port}
    (h : (s.spindle p).state ≠ .ready ∨ (s.spindle p).tracker.tracked = false ∨ (∀ c, (s.spindle p).arm ≠ .settled c) ∨
      ∃ q ∈ s.table, q.spindle = p ∧ q.status = .active) : s.seekEligible p = none := by
  refine Option.eq_none_iff_forall_ne_some.mpr fun a ha => ?_
  obtain ⟨hready, htracked, hidle, harm⟩ := (s.seekEligible_eq_some_iff p a).mp ha
  rcases h with hstate | huntracked | hunsettled | ⟨q, hq, hp, hactive⟩
  · exact hstate hready
  · rw [htracked] at huntracked; cases huntracked
  · exact hunsettled a harm
  · exact hidle q hq hp hactive

/-- R58, R62: a seek issued: what it makes of the spindle's records, and its frame. -/
theorem State.issueSeek_changes (s : State) (p : Port) (target : Nat) (owner : Tag) :
    s.issueSeek p target owner = { s with spindles := (s.issueSeek p target owner).spindles } ∧
    (s.issueSeek p target owner).spindle p = { s.spindle p with
      arm := .seeking target (some owner) (s.now + s.params.seekTimeout * 1000)
      orders := { (s.spindle p).orders with
        cylinderLines := target, seekStrobes := (s.spindle p).orders.seekStrobes + 1 } } ∧
    ∀ q : Port, q ≠ p → (s.issueSeek p target owner).spindle q = s.spindle q :=
  s.modSpindle_changes p _

/-- The request whose cylinder the arm of a spindle is to seek, if it is to seek. -/
def State.seekRequest (s : State) (p : Port) : Option Request :=
  (s.seekEligible p).bind fun a => seekChoice a (s.queuedOf p)

theorem State.chooseSeek_eq (s : State) (p : Port) :
    s.chooseSeek p = (s.seekRequest p).elim s fun r => s.issueSeek p r.next.cylinder r.tag := by
  unfold State.chooseSeek State.seekRequest
  cases s.seekEligible p with
  | none => rfl
  | some a => cases h : seekChoice a (s.queuedOf p) <;> simp [h]

theorem State.chooseSeek_of_eligible {s : State} {p : Port} {a : Nat} (h : s.seekEligible p = some a) :
    s.chooseSeek p = (seekChoice a (s.queuedOf p)).elim s fun r => s.issueSeek p r.next.cylinder r.tag := by
  rw [State.chooseSeek_eq, State.seekRequest, h]
  rfl

/-! R107: the choices of the arms, one after another -/

theorem State.chooseSeek_spindle_of_ne (s : State) {p q : Port} (h : q ≠ p) : (s.chooseSeek p).spindle q = s.spindle q := by
  rw [State.chooseSeek_eq]
  cases s.seekRequest p with
  | none => rfl
  | some r =>
    obtain ⟨-, -, hother⟩ := s.issueSeek_changes p r.next.cylinder r.tag
    exact hother q h

theorem State.seekRequest_congr {s t : State} {p : Port} (hspindle : t.spindle p = s.spindle p) (htable : t.table = s.table) :
    t.seekRequest p = s.seekRequest p := by
  have heligible : t.seekEligible p = s.seekEligible p :=
    Option.ext fun a => by simp only [State.seekEligible_eq_some_iff, hspindle, htable]
  simp only [State.seekRequest, heligible, State.queuedOf, htable]

/-- What a choice makes of the records of its spindle depends on those records, the table, the time base and SEEK_TIMEOUT. -/
theorem State.chooseSeek_spindle_congr {s t : State} {p : Port} (hspindle : t.spindle p = s.spindle p)
    (htable : t.table = s.table) (hnow : t.now = s.now) (hparams : t.params = s.params) :
    (t.chooseSeek p).spindle p = (s.chooseSeek p).spindle p := by
  rw [State.chooseSeek_eq, State.chooseSeek_eq, State.seekRequest_congr hspindle htable]
  cases s.seekRequest p with
  | none => exact hspindle
  | some r => simp [State.issueSeek, hspindle, hnow, hparams]

theorem State.foldl_chooseSeek_spindle {l : List Port} (hl : l.Nodup) (s : State) (p : Port) :
    (l.foldl State.chooseSeek s).spindle p = if p ∈ l then (s.chooseSeek p).spindle p else s.spindle p := by
  induction l generalizing s with
  | nil => rfl
  | cons q l ih =>
    obtain ⟨hq, hl⟩ := List.nodup_cons.mp hl
    rw [List.foldl_cons, ih hl]
    by_cases hpq : p = q
    · subst hpq
      rw [if_neg hq, if_pos List.mem_cons_self]
    · have hframe := s.chooseSeek_spindle_of_ne hpq
      rw [State.chooseSeek_spindle_congr hframe (by simp) (by simp) (by simp), hframe]
      simp only [List.mem_cons, hpq, false_or]

/-- R107: a re-evaluation leaves on every spindle what the choice of its arm alone leaves. -/
theorem State.reevaluate_spindle {s : State} (h : s.choiceHold = false) (p : Port) :
    s.reevaluate.spindle p = (s.chooseSeek p).spindle p := by
  rw [State.reevaluate, h, if_neg Bool.false_ne_true, State.chooseChannel_spindle,
    State.foldl_chooseSeek_spindle (by decide), if_pos (mem_allPorts p)]

/-- Settles O41: an eligible arm seeks for the request that `seekChoice` takes, one clause of it after another; the independence of the
arms is `State.reevaluate_spindle`. -/
theorem seekChoices : Obligations.SeekChoices := by
  unfold Obligations.SeekChoices
  intro s
  refine ⟨fun hhold => if_pos hhold, State.reevaluate_spindle, fun p hineligible => ?ineligible, ?eligible⟩
  case ineligible => rw [State.chooseSeek, State.seekEligible_eq_none hineligible]
  case eligible =>
    intro p a queued hready htracked harm hidle hqueued
    have hchoice := State.chooseSeek_of_eligible ((s.seekEligible_eq_some_iff p a).mpr ⟨hready, htracked, hidle, harm⟩)
    rw [State.queuedOf, ← hqueued] at hchoice
    refine ⟨fun hempty => ?empty, fun before r after hsplit hoverdue hfirst => ?overdue,
      fun hnone => ⟨fun hon => ?onCylinder, fun hoff => ⟨fun before r after hsplit hurgent hfirst => ?urgent,
        fun before r after hsplit hordinary hbefore hafter => ?nearest⟩⟩,
      s.issueSeek_changes p⟩
    case empty => rw [hchoice, hempty]; rfl
    case overdue =>
      rw [hchoice, seekChoice_overdue (hsplit ▸ find?_append_cons hoverdue hfirst)]
      split <;> rfl
    case onCylinder => rw [hchoice, seekChoice_onCylinder (find?_eq_none_of_false hnone) hon]; rfl
    case urgent =>
      rw [hchoice, seekChoice_urgent (find?_eq_none_of_false hnone) hoff (hsplit ▸ find?_append_cons hurgent hfirst)]
      rfl
    case nearest =>
      simp only [← cylinderDistance_eq_natAbs] at hbefore hafter
      rw [hchoice, seekChoice_nearest (find?_eq_none_of_false hnone) hoff (find?_eq_none_of_false hordinary)
        (hsplit ▸ firstLeast_append_cons hbefore hafter)]
      rfl

/-! R115, R116: least rank -/

theorem State.distance_eq_slotsAway (s : State) (r : Request) : s.distance r = s.slotsAway r := by
  unfold State.distance State.slotsAway Request.targetSector
  cases r.kind <;> rfl

/-- R115: spindle numbers are below 8, so that the rank orders by distance and then by spindle. -/
theorem State.rank_lt_iff (s : State) (r q : Request) : s.rank r < s.rank q ↔ s.Nearer r q := by
  simp only [State.rank, State.Nearer, State.distance_eq_slotsAway, Fin.lt_def]
  omega

theorem State.firstLeast_rank_filter {s : State} {c : Request → Bool} {before after : List Request} {r : Request} (hr : c r = true)
    (hbefore : ∀ q ∈ before, c q = true → s.Nearer r q) (hafter : ∀ q ∈ after, c q = true → ¬ s.Nearer q r) :
    firstLeast s.rank ((before ++ r :: after).filter c) = some r := by
  rw [List.filter_append, List.filter_cons_of_pos hr]
  refine firstLeast_append_cons (fun q hq => ?_) fun q hq => ?_ <;> obtain ⟨hmem, hc⟩ := List.mem_filter.mp hq
  · exact (s.rank_lt_iff r q).mpr (hbefore q hmem hc)
  · exact Nat.not_lt.mp fun hlt => hafter q hmem hc ((s.rank_lt_iff q r).mp hlt)

/-! R113 to R115: the winner -/

section
variable {s : State} {r : Request}

theorem State.winner_of_no_candidate (h : ∀ q ∈ s.table, ¬ s.IsCandidate q) : s.winner = none := by
  have hempty : s.table.filter s.candidate = [] :=
    List.filter_eq_nil_iff.mpr fun q hq hc => h q hq ((s.candidate_eq q).mp hc)
  simp [State.winner, hempty, firstLeast]

theorem State.winner_overdue (h : (s.table.filter s.candidate).find? (·.overdue) = some r) : s.winner = some r := by
  simp only [State.winner, h]

theorem State.winner_urgent (hnone : (s.table.filter s.candidate).find? (·.overdue) = none)
    (h : firstLeast s.rank ((s.table.filter s.candidate).filter (·.flags.urgent)) = some r) : s.winner = some r := by
  have hsome : ((s.table.filter s.candidate).filter (·.flags.urgent)).isEmpty = false :=
    List.isEmpty_eq_false_iff_exists_mem.mpr ⟨r, firstLeast_mem h⟩
  simp only [State.winner, hnone, hsome, Bool.false_eq_true, if_false, h]

theorem State.winner_ordinary (hnone : (s.table.filter s.candidate).find? (·.overdue) = none)
    (hordinary : (s.table.filter s.candidate).filter (·.flags.urgent) = [])
    (h : firstLeast s.rank (s.table.filter s.candidate) = some r) : s.winner = some r := by
  simp [State.winner, hnone, hordinary, h]

/-- A fact of every candidate, read off the filtered table. -/
theorem State.of_mem_candidates {P : Request → Prop} {l : List Request} (h : ∀ q ∈ l, s.IsCandidate q → P q) :
    ∀ q ∈ l.filter s.candidate, P q := fun q hq =>
  have ⟨hmem, hc⟩ := List.mem_filter.mp hq
  h q hmem ((s.candidate_eq q).mp hc)

/-! R114, R117: the grant -/

theorem State.chooseChannel_of_busy {e : Engagement} (h : s.chan = some e) : s.chooseChannel = s := by
  simp only [State.chooseChannel, h]

theorem State.chooseChannel_of_no_candidate (h : ∀ q ∈ s.table, ¬ s.IsCandidate q) : s.chooseChannel = s := by
  rw [State.chooseChannel, State.winner_of_no_candidate h]
  split <;> rfl

theorem State.chooseChannel_of_winner (hidle : s.chan = none) (h : s.winner = some r) : s.chooseChannel = s.engaged r := by
  simp only [State.chooseChannel, hidle, h, State.engage_eq]

end

/-- Settles O42: the channel is granted to the winner, whom the filtered table gives by age when a candidate is overdue and by rank
when none is. -/
theorem channelChoice : Obligations.ChannelChoice := by
  unfold Obligations.ChannelChoice
  intro s _
  refine ⟨fun e => State.chooseChannel_of_busy, State.chooseChannel_of_no_candidate,
    fun hidle before r after hsplit hr => ?granted⟩
  have hcandidate := (s.candidate_eq r).mpr hr
  refine ⟨fun hoverdue hfirst => State.chooseChannel_of_winner hidle (State.winner_overdue ?overdue),
    fun hnone => ⟨fun hurgent hbefore hafter => State.chooseChannel_of_winner hidle (State.winner_urgent ?none ?urgent),
      fun hordinary hbefore hafter => State.chooseChannel_of_winner hidle (State.winner_ordinary ?none' ?noUrgent ?nearest)⟩⟩
  case none | none' => exact find?_eq_none_of_false (State.of_mem_candidates hnone)
  case overdue =>
    rw [hsplit, List.filter_append, List.filter_cons_of_pos hcandidate]
    exact find?_append_cons hoverdue (State.of_mem_candidates hfirst)
  case urgent =>
    rw [hsplit, List.filter_filter]
    refine State.firstLeast_rank_filter ?_ (fun q hq hc => ?_) fun q hq hc => ?_
    · rw [hurgent, hcandidate]; rfl
    all_goals
      obtain ⟨hu, hc⟩ := Bool.and_eq_true_iff.mp hc
    · exact hbefore q hq ((s.candidate_eq q).mp hc) hu
    · exact hafter q hq ((s.candidate_eq q).mp hc) hu
  case noUrgent =>
    exact List.filter_eq_nil_iff.mpr fun q hq => Bool.eq_false_iff.mp (State.of_mem_candidates hordinary q hq)
  case nearest =>
    rw [hsplit]
    exact State.firstLeast_rank_filter hcandidate (fun q hq hc => hbefore q hq ((s.candidate_eq q).mp hc))
      fun q hq hc => hafter q hq ((s.candidate_eq q).mp hc)

end Sys2Proof.Machine
end

section
/-! ECHO (O11: R169, R170, R179). A judgement that leaves the state alone makes nothing due, so the handling is the REPLY and the outbound
arbiter; the length of the body picks between the two judgements of an ECHO. -/

namespace Sys2Proof.Machine

/-- R169, R170: a message answered with a further body changes nothing but the queues. -/
theorem handle_answer {i : Instr} {kind seq : Byte} {judge : State → Judged} {s : State} {further : List Byte}
    (hcan : s.canHandle i = true) (hj : judge s.popInbound = ⟨.ok, further, s.popInbound⟩) :
    handle i kind seq judge s = .next (serve s.popInbound (s.popInbound.pushReply kind seq .ok further)) := by
  simp only [handle, if_pos hcan, hj, finish_self]

/-- Table 9-4: five bytes stand before the further body of a REPLY. -/
theorem replyBody_length (r : Reply) : (replyBody r).length = r.further.length + 5 := by
  rw [replyBody, List.length_append, Nat.add_comm]
  rfl

theorem judgeEcho_answer {body : List Byte} (h : body.length ≤ Config.maxEcho) (s : State) :
    judgeEcho body s = ⟨.ok, body, s⟩ := if_pos h

theorem judgeEcho_badField {body : List Byte} (h : Config.maxEcho < body.length) (s : State) :
    judgeEcho body s = refuse .badField s := if_neg (Nat.not_le.mpr h)

/-- Settles O11: on each side of R179's limit the judgement of the ECHO, carried through the handling of the message. -/
theorem echoAnswers : Obligations.EchoAnswers := by
  unfold Obligations.EchoAnswers
  intro s seq body hcan
  refine ⟨fun hfits => ⟨?answer, ?length⟩, fun hlong => ?refusal⟩
  case answer => exact handle_answer hcan (judgeEcho_answer hfits _)
  case length => rw [replyBody_length]; exact Nat.add_le_add_right hfits 5
  case refusal => exact handle_refuse _ _ _ _ _ _ hcan (judgeEcho_badField hlong _)

end Sys2Proof.Machine
end

section
/-! Event posts (O29: R185, R186, R187, R188). A post passes over the records of other spindles that stand ahead of its place. Behind
them it finds the end of the queue and creates a record there, or it finds its spindle's record and merges into it. -/

namespace Sys2Proof.Machine

/-- R185: the records of other spindles ahead of a post's place stay as they are, in their order. -/
theorem postInto_append {p : Port} {before : List EventRecord} (hbefore : ∀ q ∈ before, q.spindle ≠ p) (kind : EventSet)
    (now : SpindleState) (cause : Option Cause) (rest : List EventRecord) :
    postInto p kind now cause (before ++ rest) = before ++ postInto p kind now cause rest := by
  induction before with
  | nil => rfl
  | cons q before ih =>
    obtain ⟨hq, hbefore⟩ := List.forall_mem_cons.mp hbefore
    rw [List.cons_append, postInto, if_neg hq, ih hbefore, List.cons_append]

/-- R187: a post for a spindle without a record creates one at the tail. -/
theorem postInto_create {p : Port} {events : List EventRecord} (hnone : ∀ r ∈ events, r.spindle ≠ p) (kind : EventSet)
    (now : SpindleState) (cause : Option Cause) :
    postInto p kind now cause events = events ++ [⟨p, kind, now, cause, 1⟩] := by
  simpa only [List.append_nil, postInto] using postInto_append hnone kind now cause []

/-- R188: a post for a spindle with a record merges into that record, in its place. -/
theorem postInto_merge {p : Port} {before : List EventRecord} {r : EventRecord} (hbefore : ∀ q ∈ before, q.spindle ≠ p)
    (hr : r.spindle = p) (kind : EventSet) (now : SpindleState) (cause : Option Cause) (after : List EventRecord) :
    postInto p kind now cause (before ++ r :: after) =
      before ++ ⟨p, r.set.join kind, now, cause, min 255 (r.count + 1)⟩ :: after := by
  rw [postInto_append hbefore, postInto, if_pos hr]

/-- Settles O29: a post is `postInto` on the Event Queue with the spindle's state and cause as they stand; it creates a record where the
queue holds none of the spindle (R187) and merges into the one it meets otherwise (R188). -/
theorem eventPosts : Obligations.EventPosts := by
  unfold Obligations.EventPosts
  rintro s p kind cause rfl
  refine ⟨rfl, fun hnone => ?create, fun before r after hsplit hr hbefore => ?merge⟩
  case create => rw [State.post_events, postInto_create hnone]
  case merge =>
    rw [State.post_events, hsplit, postInto_merge hbefore hr]
    rfl

end Sys2Proof.Machine
end

section
/-! What a command can do (O3, and every invariant's step): the effects of the events, the effects of the messages, and the seven ways in
which `exec` answers. -/

-- One declaration after another: elaborated in parallel, these files ask for more memory than a check has.
set_option Elab.async false

namespace Sys2Proof.Machine

/-- The effects of the events that are not messages, before the end of the event. -/
inductive EventEffect (s : State) : State → Prop
  | frameBegun : EventEffect s s.beginFrame
  | frameReceived (kind seq : Byte) (body : List Byte) (check : Half) : EventEffect s (s.endFrame kind seq body check)
  | lengthError (length : Half) : EventEffect s (s.breakLength length)
  | gapTimeout : EventEffect s s.breakGap
  | transmissionEnd : EventEffect s s.endTransmission
  | presFalling (p : Port) (h : (s.spindle p).lines.pres = true) : EventEffect s ((s.setPres p false).presFall p)
  | presRising (p : Port) (h : (s.spindle p).lines.pres = false) : EventEffect s ((s.setPres p true).presRise p)
  | spunChange (p : Port) (level : Bool) : EventEffect s ((s.setSpun p level).spunChange p level)
  | unitFault (p : Port) : EventEffect s (s.unitFault p)
  | wprChange (p : Port) (level : Bool) : EventEffect s ((s.setWpr p level).postConfigured p eventWprChange)
  | attention (p : Port) : EventEffect s (s.postConfigured p eventAttention)
  | sectorMark (p : Port) : EventEffect s ((s.trackSector p).channelMark p false)
  | indexMark (p : Port) (moment : Nat) : EventEffect s (((s.clockTo moment).spindleIndex p).channelMark p true)
  | formatSlotWritten : EventEffect s s.formatSlotWritten
  | headerRead (slot : Nat) (read : HeaderRead) : EventEffect s (s.headerRead slot read)
  | dataFieldEnd (read : FieldRead) : EventEffect s (s.dataFieldEnd read)
  | motionDone (p : Port) (h : (s.spindle p).state = .ready) : EventEffect s (s.motionDone p)
  | motionFailed (p : Port) (h : (s.spindle p).state = .ready) : EventEffect s (s.motionFailed p)
  | motionTimeout (p : Port) (h : (s.spindle p).state = .ready) : EventEffect s (s.motionTimeout p)
  | spinUpTimeout (p : Port) : EventEffect s (s.spinUpTimeout p)
  | spinDownTimeout (p : Port) : EventEffect s (s.spinDownTimeout p)
  | idleTimeout (p : Port) : EventEffect s (s.idleTimeout p)
  | ageTimeout (t : Tag) : EventEffect s (s.ageTimeout t)

/-- The effects of the messages but RESTART, each with what its judgement has found. -/
inductive MessageEffect (s : State) : State → Prop
  | none : MessageEffect s s
  | submit (m : SubmitFields) (q : SubmitRequest) (hq : parseSubmit m = some q) (h : submitRefusal s q = Option.none) :
      MessageEffect s (s.admitRequest q)
  | wdata (t : Tag) (r : Request) (index : Nat) (payload : List Byte) (hr : s.request t = some r)
      (h : wdataRefusal s r index = Option.none) : MessageEffect s (s.stage t index payload)
  | cancel (t : Tag) (r : Request) (hr : s.request t = some r) (h : r.cancelPending = false) : MessageEffect s (s.cancel r)
  | configure (p : Port) (g : Geometry) (hg : g.legal = true) (hidle : s.requestCount p = 0)
      (h : (s.spindle p).state = .unconfigured ∨ (s.spindle p).state = .absent ∨ (s.spindle p).state = .parked) :
      MessageEffect s (s.configure p g)
  | deconfigure (p : Port) (hidle : s.requestCount p = 0)
      (h : (s.spindle p).state = .parked ∨ (s.spindle p).state = .absent ∨ (s.spindle p).state = .faulted) :
      MessageEffect s (s.deconfigure p)
  | spinUp (p : Port) (v : State) (h : judgeSpinUp p s = accept v) : MessageEffect s v
  | spinDown (p : Port) (v : State) (h : judgeSpinDown p s = accept v) : MessageEffect s v
  | clearFault (p : Port) (h : (s.spindle p).state = .faulted) : MessageEffect s (s.clearFault p)
  | setp (id : ParamId) (v : Nat) (hrange : paramInRange v id = true) (hfree : limitInUse s id v = false) :
      MessageEffect s (s.applyParam id v)

/-- The answers of `exec`: the state stands; an event that is taken; a message that is handled; a RESTART that is taken; the level on a
line, in reset; and the two commands of the reset line. -/
inductive Answer : Instr → State → State → Prop
  | stands {c : Instr} {s : State} : Answer c s s
  | event {c : Instr} {s : State} (v : State) (hrun : s.inReset = false) (h : EventEffect s v) : Answer c s (settle s v)
  | message {c : Instr} {s : State} (v : State) (kind seq : Byte) (code : Code) (further : List Byte) (hcan : s.canHandle c = true)
      (h : MessageEffect s.popInbound v) :
      Answer c s (serve s.popInbound ((finish s.popInbound v).pushReply kind seq code further))
  | restart {s : State} (seq : Byte) (hcan : s.canHandle (.restart seq []) = true) :
      Answer (.restart seq []) s (settle s.popInbound (s.popInbound.takeRestart seq))
  | level {c : Instr} {s : State} (p : Port) (f : Lines → Lines) (hreset : s.inReset = true) :
      Answer c s (s.modSpindle p fun r => { r with lines := f r.lines })
  | assertReset {s : State} : Answer .rstnAsserted s s.assertReset
  | hardwareReset {s : State} : Answer .hardwareReset s s.hardwareReset

/-! Each message's judgement -/

/-- A judgement whose effect on the state is one of those listed. -/
def Judged.Effect (j : Judged) (s : State) : Prop := MessageEffect s j.state

theorem refuse_effect (code : Code) (s : State) : (refuse code s).Effect s := .none

theorem judgeBody_effect {α : Type} (m : Body α) (judge : α → State → Judged) (s : State)
    (h : ∀ a, (judge a s).Effect s) : (judgeBody m judge s).Effect s := by
  cases m with
  | fields a => exact h a
  | otherLength bytes => exact refuse_effect _ _

theorem judgeUnit_effect (n : Byte) (act : Port → State → Judged) (s : State) (h : ∀ p, (act p s).Effect s) :
    (judgeUnit n act s).Effect s := by
  unfold judgeUnit
  split
  · exact refuse_effect _ _
  · exact h _

theorem judgeSubmit_effect (m : SubmitFields) (s : State) : (judgeSubmit m s).Effect s := by
  unfold judgeSubmit
  split
  · exact refuse_effect _ _
  · next q hq =>
    split
    · exact refuse_effect _ _
    · next h => exact .submit m q hq h

theorem judgeWdata_effect (m : WdataFields) (s : State) : (judgeWdata m s).Effect s := by
  unfold judgeWdata
  split
  · exact refuse_effect _ _
  · split
    · exact refuse_effect _ _
    · split
      · exact refuse_effect _ _
      · next r hr =>
        split
        · exact refuse_effect _ _
        · next h => exact .wdata _ r _ _ hr h

theorem judgeCancel_effect (b : Byte) (s : State) : (judgeCancel b s).Effect s := by
  unfold judgeCancel
  split
  · exact refuse_effect _ _
  · split
    · exact refuse_effect _ _
    · next r hr =>
      split
      · exact refuse_effect _ _
      · next h => exact .cancel _ r hr (by simpa using h)

theorem judgeConfigure_effect (g : Geometry) (p : Port) (s : State) : (judgeConfigure g p s).Effect s := by
  unfold judgeConfigure
  split
  · exact refuse_effect _ _
  · next hg =>
    have hg : g.legal = true := by simpa using hg
    split
    · exact refuse_effect _ _
    · next hidle =>
      have hidle : s.requestCount p = 0 := by simpa using hidle
      split
      · next h => exact .configure p g hg hidle (.inl h)
      · next h => exact .configure p g hg hidle (.inr (.inl h))
      · next h => exact .configure p g hg hidle (.inr (.inr h))
      · exact refuse_effect _ _

theorem judgeDeconfigure_effect (p : Port) (s : State) : (judgeDeconfigure p s).Effect s := by
  unfold judgeDeconfigure
  split
  · exact refuse_effect _ _
  · next hidle =>
    have hidle : s.requestCount p = 0 := by simpa using hidle
    split
    · next h => exact .deconfigure p hidle (.inl h)
    · next h => exact .deconfigure p hidle (.inr (.inl h))
    · next h => exact .deconfigure p hidle (.inr (.inr h))
    · exact refuse_effect _ _

/-- R20: a SPIN_UP is refused, which leaves the state alone, or accepted. -/
theorem judgeSpinUp_effect (p : Port) (s : State) : (judgeSpinUp p s).Effect s := by
  have haccept : judgeSpinUp p s = accept (judgeSpinUp p s).state ∨ (judgeSpinUp p s).state = s := by
    unfold judgeSpinUp
    cases (s.spindle p).state <;> simp [accept, refuse]
  rcases haccept with h | h
  · exact .spinUp p _ h
  · unfold Judged.Effect
    rw [h]
    exact .none

/-- R21: a SPIN_DOWN is refused, which leaves the state alone, or accepted. -/
theorem judgeSpinDown_effect (p : Port) (s : State) : (judgeSpinDown p s).Effect s := by
  have haccept : judgeSpinDown p s = accept (judgeSpinDown p s).state ∨ (judgeSpinDown p s).state = s := by
    unfold judgeSpinDown
    split
    · exact .inr rfl
    · cases (s.spindle p).state <;> simp [accept, refuse]
  rcases haccept with h | h
  · exact .spinDown p _ h
  · unfold Judged.Effect
    rw [h]
    exact .none

theorem judgeClearFault_effect (p : Port) (s : State) : (judgeClearFault p s).Effect s := by
  unfold judgeClearFault
  split
  · next h => exact .clearFault p h
  · exact refuse_effect _ _

theorem judgeSetp_effect (id : ParamId) (value : Word) (s : State) : (judgeSetp id value s).Effect s := by
  unfold judgeSetp
  dsimp only
  split
  · exact refuse_effect _ _
  · next hrange =>
    split
    · exact refuse_effect _ _
    · next hfree =>
      split
      · exact .none
      · exact .setp id _ (by simpa using hrange) (by simpa using hfree)

theorem judgeGetp_effect (b : Byte) (s : State) : (judgeGetp b s).Effect s := by
  unfold judgeGetp
  split <;> exact .none

theorem judgeEcho_effect (body : List Byte) (s : State) : (judgeEcho body s).Effect s := by
  unfold judgeEcho
  split <;> exact .none

theorem judgeStatusSpindle_effect (n : Byte) (s : State) : (judgeStatusSpindle n s).Effect s := by
  unfold judgeStatusSpindle
  split <;> exact .none

theorem judgeStatusRequest_effect (n : Byte) (s : State) : (judgeStatusRequest n s).Effect s := by
  unfold judgeStatusRequest
  split
  · exact .none
  · split <;> exact .none

/-! The answers of the three kinds of command -/

theorem handle_result {c : Instr} {kind seq : Byte} {judge : State → Judged} {s t : State}
    (hj : (judge s.popInbound).Effect s.popInbound) (h : handle c kind seq judge s = .next t) : Answer c s t := by
  unfold handle at h
  split at h
  · next hcan =>
    obtain rfl := Host.Outcome.next.inj h
    exact .message _ kind seq _ _ hcan hj
  · obtain rfl := Host.Outcome.next.inj h
    exact .stands

theorem event_answer {c : Instr} {effect : State → State} {s t : State} (he : EventEffect s (effect s))
    (h : event s effect = .next t) : Answer c s t := by
  unfold event at h
  split at h
  · obtain rfl := Host.Outcome.next.inj h
    exact .stands
  · next hrun =>
    obtain rfl := Host.Outcome.next.inj h
    exact .event _ (by simpa using hrun) he

theorem lineChange_answer {c : Instr} {p : Port} {changed : Bool} {f : Lines → Lines} {effect : State → State} {s t : State}
    (he : changed = true → EventEffect s (effect (s.modSpindle p fun r => { r with lines := f r.lines })))
    (h : lineChange changed (fun u => u.modSpindle p fun r => { r with lines := f r.lines }) effect s = .next t) :
    Answer c s t := by
  unfold lineChange at h
  split at h
  · obtain rfl := Host.Outcome.next.inj h
    exact .stands
  · next hchanged =>
    split at h
    · next hreset =>
      obtain rfl := Host.Outcome.next.inj h
      exact .level p f hreset
    · next hrun =>
      obtain rfl := Host.Outcome.next.inj h
      exact .event _ (by simpa using hrun) (he (by simpa using hchanged))

theorem armEvent_effect {p : Port} {effect : State → State} {s : State}
    (h : (s.spindle p).state = .ready → EventEffect s (effect s)) : EventEffect s (armEvent p effect s) ∨ armEvent p effect s = s := by
  unfold armEvent
  split
  · next hready => exact .inl (h hready)
  · exact .inr rfl

theorem armEvent_answer {c : Instr} {p : Port} {effect : State → State} {s t : State}
    (he : (s.spindle p).state = .ready → EventEffect s (effect s)) (h : event s (armEvent p effect) = .next t) : Answer c s t := by
  rcases armEvent_effect he with htaken | hnone
  · exact event_answer htaken h
  · rw [event_none _ _ hnone] at h
    obtain rfl := Host.Outcome.next.inj h
    exact .stands

theorem restart_answer {seq : Byte} {body : List Byte} {s t : State} (h : execRestart seq body s = .next t) :
    Answer (.restart seq body) s t := by
  unfold execRestart at h
  split at h
  · next hcan =>
    obtain ⟨hcan, hempty⟩ := Bool.and_eq_true_iff.mp hcan
    obtain rfl := List.isEmpty_iff.mp hempty
    obtain rfl := Host.Outcome.next.inj h
    exact .restart seq hcan
  · exact handle_result (refuse_effect _ _) h

theorem presFalling_answer {p : Port} {s t : State} (h : execPresFalling p s = .next t) : Answer (.presFalling p) s t :=
  lineChange_answer (f := fun l => { l with pres := false }) (effect := fun u => u.presFall p)
    (fun hc => .presFalling p hc) h

theorem presRising_answer {p : Port} {s t : State} (h : execPresRising p s = .next t) : Answer (.presRising p) s t :=
  lineChange_answer (f := fun l => { l with pres := true }) (effect := fun u => u.presRise p)
    (fun hc => .presRising p (Bool.not_eq_true' _ |>.mp hc)) h

theorem spunChange_answer {p : Port} {level : Bool} {s t : State} (h : execSpunChange p level s = .next t) :
    Answer (.spunChange p level) s t :=
  lineChange_answer (f := fun l => { l with spun := level }) (effect := fun u => u.spunChange p level)
    (fun _ => .spunChange p level) h

theorem wprChange_answer {p : Port} {level : Bool} {s t : State} (h : execWprLevelChange p level s = .next t) :
    Answer (.wprLevelChange p level) s t :=
  lineChange_answer (f := fun l => { l with wpr := level }) (effect := fun u => u.postConfigured p eventWprChange)
    (fun _ => .wprChange p level) h

theorem frameReceived_answer {kind seq : Byte} {body : List Byte} {check : Half} {s t : State}
    (h : execFrameReceived kind seq body check s = .next t) : Answer (.frameReceived kind seq body check) s t :=
  event_answer (effect := fun u => u.endFrame kind seq body check) (.frameReceived kind seq body check) h

/-- The answers to the messages. -/
theorem exec_message_answer {c : Instr} {s t : State} (hc : c.isMessage = true) (h : exec c s = .next t) : Answer c s t := by
  cases c with
  | submit seq m => exact handle_result (judgeBody_effect m _ _ fun a => judgeSubmit_effect a _) h
  | wdata seq m => exact handle_result (judgeBody_effect m _ _ fun a => judgeWdata_effect a _) h
  | cancel seq m => exact handle_result (judgeBody_effect m _ _ fun a => judgeCancel_effect a _) h
  | configure seq n cylinders surfaces sectors =>
    exact handle_result (judgeUnit_effect _ _ _ fun p => judgeConfigure_effect _ p _) h
  | deconfigure seq n => exact handle_result (judgeUnit_effect _ _ _ fun p => judgeDeconfigure_effect p _) h
  | spinUp seq n => exact handle_result (judgeUnit_effect _ _ _ fun p => judgeSpinUp_effect p _) h
  | spinDown seq n => exact handle_result (judgeUnit_effect _ _ _ fun p => judgeSpinDown_effect p _) h
  | clearFault seq n => exact handle_result (judgeUnit_effect _ _ _ fun p => judgeClearFault_effect p _) h
  | setpSpinLimit seq value => exact handle_result (judgeSetp_effect _ _ _) h
  | setpSurgeLimit seq value => exact handle_result (judgeSetp_effect _ _ _) h
  | setpSpinupTimeout seq value => exact handle_result (judgeSetp_effect _ _ _) h
  | setpSpindownTimeout seq value => exact handle_result (judgeSetp_effect _ _ _) h
  | setpIdleTimeout seq value => exact handle_result (judgeSetp_effect _ _ _) h
  | setpSeekTimeout seq value => exact handle_result (judgeSetp_effect _ _ _) h
  | setpRevLimit seq value => exact handle_result (judgeSetp_effect _ _ _) h
  | setpRetryLimit seq value => exact handle_result (judgeSetp_effect _ _ _) h
  | setpBurstLimit seq value => exact handle_result (judgeSetp_effect _ _ _) h
  | setpAgeLimit seq value => exact handle_result (judgeSetp_effect _ _ _) h
  | setpStageDepth seq value => exact handle_result (judgeSetp_effect _ _ _) h
  | setpReadReserve seq value => exact handle_result (judgeSetp_effect _ _ _) h
  | setpTrackFaultLimit seq value => exact handle_result (judgeSetp_effect _ _ _) h
  | getp seq m => exact handle_result (judgeBody_effect m _ _ fun a => judgeGetp_effect a _) h
  | statusPart seq n => exact handle_result (judge := judgeStatusPart) MessageEffect.none h
  | statusSpindle seq n => exact handle_result (judgeStatusSpindle_effect n _) h
  | statusRequest seq n => exact handle_result (judgeStatusRequest_effect n _) h
  | echo seq body => exact handle_result (judgeEcho_effect body _) h
  | unknownKind kind seq body => exact handle_result (refuse_effect _ _) h
  | messageRefusedBadField kind seq body => exact handle_result (refuse_effect _ _) h
  | restart seq body => exact restart_answer h
  | _ => cases hc

/-- What a command can do: one of the seven answers. -/
theorem exec_answer {c : Instr} {s t : State} (h : exec c s = .next t) : Answer c s t := by
  cases c with
  | frameReceived kind seq body check => exact frameReceived_answer h
  | lengthError length => exact event_answer (effect := fun u => u.breakLength length) (.lengthError length) h
  | gapTimeout => exact event_answer (effect := fun u => u.breakGap) .gapTimeout h
  | frameTransmissionEnd => exact event_answer (effect := fun u => u.endTransmission) .transmissionEnd h
  | rstnAsserted => exact Host.Outcome.next.inj h ▸ .assertReset
  | hardwareReset => exact Host.Outcome.next.inj h ▸ .hardwareReset
  | presFalling p => exact presFalling_answer h
  | presRising p => exact presRising_answer h
  | spunChange p level => exact spunChange_answer h
  | ufltRising p => exact event_answer (effect := fun u => u.unitFault p) (.unitFault p) h
  | wprLevelChange p level => exact wprChange_answer h
  | atnRising p => exact event_answer (effect := fun u => u.postConfigured p eventAttention) (.attention p) h
  | sectorMark p => exact event_answer (effect := fun u => (u.trackSector p).channelMark p false) (.sectorMark p) h
  | indexMark p moment =>
    exact event_answer (effect := fun u => ((u.clockTo moment).spindleIndex p).channelMark p true) (.indexMark p moment) h
  | formatSlotWritten => exact event_answer (effect := fun u => u.formatSlotWritten) .formatSlotWritten h
  | headerRead slot read => exact event_answer (effect := fun u => u.headerRead slot read) (.headerRead slot read) h
  | dataFieldEnd read => exact event_answer (effect := fun u => u.dataFieldEnd read) (.dataFieldEnd read) h
  | skd p => exact armEvent_answer (effect := fun u => u.motionDone p) (fun hr => .motionDone p hr) h
  | ske p => exact armEvent_answer (effect := fun u => u.motionFailed p) (fun hr => .motionFailed p hr) h
  | motionTimerExpiry p => exact armEvent_answer (effect := fun u => u.motionTimeout p) (fun hr => .motionTimeout p hr) h
  | spinUpTimerExpiry p => exact event_answer (effect := fun u => u.spinUpTimeout p) (.spinUpTimeout p) h
  | spinDownTimerExpiry p => exact event_answer (effect := fun u => u.spinDownTimeout p) (.spinDownTimeout p) h
  | idleTimerExpiry p => exact event_answer (effect := fun u => u.idleTimeout p) (.idleTimeout p) h
  | ageTimerExpiry t => exact event_answer (effect := fun u => u.ageTimeout t) (.ageTimeout t) h
  | frameBegun => exact event_answer (effect := fun u => u.beginFrame) .frameBegun h
  | _ => exact exec_message_answer rfl h

/-! Section 9.10: in reset -/

theorem State.not_canHandle_of_reset {s : State} (h : s.inReset = true) (c : Instr) : s.canHandle c = false := by
  simp [State.canHandle, h]

/-- Settles O3: in reset no event is taken and no message handled, so that of the answers only a line's level moves. -/
theorem resetHolds : Obligations.ResetHolds := by
  unfold Obligations.ResetHolds
  refine fun s => ⟨rfl, fun h => ⟨by simp [State.rtr, h], fun p => by simp [State.spen, h]⟩, ?_⟩
  intro c t hreset hassert hrelease h
  have stuck : s.canHandle c ≠ true := by simp [State.not_canHandle_of_reset hreset]
  cases exec_answer h with
  | stands => exact ⟨rfl, fun p => ⟨(s.spindle p).lines, rfl⟩⟩
  | event v hrun => exact absurd (hreset.symm.trans hrun) (by decide)
  | message v kind seq code further hcan => exact absurd hcan stuck
  | restart seq hcan => exact absurd hcan stuck
  | assertReset => exact absurd rfl hassert
  | hardwareReset => exact absurd rfl hrelease
  | level p f =>
    obtain ⟨hframe, hsame, hother⟩ := s.modSpindle_changes p fun r => { r with lines := f r.lines }
    refine ⟨hframe, fun q => ?_⟩
    by_cases hq : q = p
    · exact ⟨f (s.spindle p).lines, hq ▸ hsame⟩
    · exact ⟨(s.spindle q).lines, hother q hq⟩

end Sys2Proof.Machine
end

section
/-! The host link (O1, O2, O5 to O7, O9, O10, O12: R165 to R173, R177, R183). Nothing that the receive side does is a cause of the Spindle
Manager or the Scheduler, so that its events end with the arbiter alone. -/

-- One declaration after another: elaborated in parallel, these files ask for more memory than a check has.
set_option Elab.async false

namespace Sys2Proof.Machine

/-- Settles O1. -/
theorem stepRunsFrontCommand : Obligations.StepRunsFrontCommand := by
  unfold Obligations.StepRunsFrontCommand
  exact fun _ _ => rfl

/-! R183: hardware reset -/

theorem State.hardwareReset_spindle (s : State) (p : Port) : s.hardwareReset.spindle p = Spindle.reset (s.spindle p).lines := by
  simp [State.hardwareReset, State.spindle]

/-- R24: with no spindle in a spinning state both counts are 0. -/
theorem State.counts_of_unconfigured {s : State} (h : ∀ p : Port, (s.spindle p).state = .unconfigured) :
    s.spinningCount = 0 ∧ s.risingCount = 0 := by
  simp [State.spinningCount, State.risingCount, h, SpindleState.spinning]

/-- Settles O2: every record is a literal of the reset state but the media, which `State.tearSector_leaves` describes. -/
theorem hardwareResetState : Obligations.HardwareResetState := by
  unfold Obligations.HardwareResetState
  intro s
  have hcounts := State.counts_of_unconfigured fun p => congrArg Spindle.state (s.hardwareReset_spindle p)
  refine ⟨s.hardwareReset, rfl, s.hardwareReset_spindle, rfl, rfl, hcounts.1, hcounts.2, rfl, rfl, rfl, rfl, rfl, rfl, rfl, rfl, rfl,
    rfl, rfl, rfl, rfl, rfl, rfl, rfl, rfl, rfl, fun p => ?_, rfl, rfl, rfl, s.tearSector_leaves⟩
  simp [State.spen, s.hardwareReset_spindle p]

/-! R165: the bytes of a frame -/

/-- R165: the two bytes of a number within a two-byte field. -/
theorem le16Nat_eq {n : Nat} (h : n < 65536) : le16Nat n = [BitVec.ofNat 8 n, BitVec.ofNat 8 (n / 256)] := by
  have hlow : (BitVec.ofNat 16 n).extractLsb' 0 8 = BitVec.ofNat 8 n := by
    apply BitVec.eq_of_toNat_eq
    simp only [BitVec.extractLsb'_toNat, BitVec.toNat_ofNat, Nat.shiftRight_zero]
    omega
  have hhigh : (BitVec.ofNat 16 n).extractLsb' 8 8 = BitVec.ofNat 8 (n / 256) := by
    apply BitVec.eq_of_toNat_eq
    simp only [BitVec.extractLsb'_toNat, BitVec.toNat_ofNat, Nat.shiftRight_eq_div_pow]
    omega
  rw [le16Nat, le16, hlow, hhigh]

theorem foldl_toNat (n : Nat) (bytes : List Byte) :
    bytes.foldl (fun n b => n + b.toNat) n = n + (bytes.map BitVec.toNat).sum := by
  induction bytes generalizing n with
  | nil => rfl
  | cons b rest ih => rw [List.foldl_cons, ih, List.map_cons, List.sum_cons, Nat.add_assoc]

/-- R165: the check is what the sum lacks of 0xFFFF. -/
theorem frameCheck_toNat (kind seq : Byte) (body : List Byte) :
    (frameCheck kind seq body).toNat = 65535 - ((checkedBytes kind seq body).map BitVec.toNat).sum % 65536 := by
  rw [frameCheck, foldl_toNat, Nat.zero_add, BitVec.toNat_not, BitVec.toNat_ofNat]

/-- Settles O5: a length of at most 1,040 fits its field, and the check lacks exactly the sum of 0xFFFF. -/
theorem frameLayout : Obligations.FrameLayout := by
  unfold Obligations.FrameLayout
  intro kind seq body hbody
  have hlength : le16Nat body.length = [BitVec.ofNat 8 body.length, BitVec.ofNat 8 (body.length / 256)] :=
    le16Nat_eq (by omega)
  constructor
  · simp [frameBytes, checkedBytes, hlength, le16]
  · have hhigh : body.length / 256 % 256 = body.length / 256 := by omega
    simp only [frameCheck_toNat, checkedBytes, hlength, List.map_cons, List.cons_append, List.nil_append, List.sum_cons,
      BitVec.toNat_ofNat, hhigh, Nat.reducePow]
    omega

/-! R169: the handling of a message -/

/-- R169: a message whose handling may not begin waits. -/
theorem exec_waits {i : Instr} {s : State} (hmessage : i.isMessage = true) (hwait : s.canHandle i = false) :
    exec i s = .next s := by
  cases i
  case submit | wdata | cancel | configure | deconfigure | spinUp | spinDown | clearFault | setpSpinLimit | setpSurgeLimit |
      setpSpinupTimeout | setpSpindownTimeout | setpIdleTimeout | setpSeekTimeout | setpRevLimit | setpRetryLimit | setpBurstLimit |
      setpAgeLimit | setpStageDepth | setpReadReserve | setpTrackFaultLimit | getp | statusPart | statusSpindle | statusRequest |
      echo | unknownKind | messageRefusedBadField =>
    exact handle_waits _ _ _ _ _ hwait
  case restart seq body =>
    show execRestart seq body s = .next s
    rw [execRestart, hwait]
    exact handle_waits _ _ _ _ _ hwait
  all_goals cases hmessage

/-- Settles O9: the conditions are those of `State.canHandle_iff`. -/
theorem handlingWaits : Obligations.HandlingWaits := by
  unfold Obligations.HandlingWaits
  refine fun i s => ⟨?_, exec_waits⟩
  have hhead : s.inbound.head?.map decodeFrame = some i ↔ ∃ f rest, s.inbound = f :: rest ∧ decodeFrame f = i := by
    cases s.inbound <;> simp
  rw [State.canHandle_iff, hhead]

/-- Settles O10: each is a refusal that its judgement makes of every state. -/
theorem linkRefusals : Obligations.LinkRefusals := by
  unfold Obligations.LinkRefusals
  refine fun s seq => ⟨fun _ _ _ => rfl, rfl, fun kind body hcan => ?_, fun kind body hcan => ?_, fun bytes hcan => ?_,
    fun bytes hcan => ?_, fun bytes hcan => ?_, fun bytes hcan => ?_, fun body hbody hcan => ?restart⟩
  case restart =>
    show execRestart seq body s = _
    rw [execRestart, if_neg (by simp [hbody])]
    exact handle_refuse _ _ _ _ _ _ hcan rfl
  all_goals exact handle_refuse _ _ _ _ _ _ hcan rfl

/-! R177: GETP -/

theorem paramOf_of_mem {b : Byte} {id : ParamId} {lo hi : Nat} (h : (b, id, lo, hi) ∈ paramRows) : paramOf b = some id := by
  simp only [paramRows, List.mem_cons, List.not_mem_nil, or_false, Prod.mk.injEq] at h
  rcases h with ⟨rfl, rfl, -⟩ | ⟨rfl, rfl, -⟩ | ⟨rfl, rfl, -⟩ | ⟨rfl, rfl, -⟩ | ⟨rfl, rfl, -⟩ | ⟨rfl, rfl, -⟩ | ⟨rfl, rfl, -⟩ |
    ⟨rfl, rfl, -⟩ | ⟨rfl, rfl, -⟩ | ⟨rfl, rfl, -⟩ | ⟨rfl, rfl, -⟩ | ⟨rfl, rfl, -⟩ | ⟨rfl, rfl, -⟩ <;> rfl

theorem paramOf_eq_none {b : Byte} (h : b.toNat = 0 ∨ 13 < b.toNat) : paramOf b = none := by
  unfold paramOf
  split
  case h_14 => rfl
  all_goals omega

/-- Settles O12: the id names the row's parameter, and the judgement leaves the state alone. -/
theorem getpAnswers : Obligations.GetpAnswers := by
  unfold Obligations.GetpAnswers
  refine fun s seq b hcan => ⟨fun id lo hi hrow => ?_, fun hnone => ?_⟩
  · have hj : judgeGetp b s.popInbound = ⟨.ok, b :: le32Nat (s.params.get id), s.popInbound⟩ := by
      simp only [judgeGetp, paramOf_of_mem hrow]
      rfl
    exact handle_answer hcan hj
  · have hj : judgeGetp b s.popInbound = refuse .badField s.popInbound := by
      simp only [judgeGetp, paramOf_eq_none hnone]
    exact handle_refuse _ _ _ _ _ _ hcan hj

/-! R166 to R168, R173: frames received, and the end of a transmission -/

/-- An event that gives the Spindle Manager, the Scheduler and RESTART no cause ends with the arbiter alone. -/
theorem event_quiet {s : State} {effect : State → State} (hrun : s.inReset = false) (h : Quiet s (effect s)) :
    event s effect = .next (serve s (effect s)) := by
  rw [event_running s effect hrun, settle, finish_quiet h]

theorem State.endFrame_hunt {s : State} (h : s.parser = .hunt) (kind seq : Byte) (body : List Byte) (check : Half) :
    s.endFrame kind seq body check = s := by
  simp only [State.endFrame, h]

theorem State.endFrame_late {s : State} {room : Bool} {begun : Nat} {body : List Byte} (h : s.parser = .frame room begun)
    (hlate : begun + (body.length + 6) * 10000 < s.now) (kind seq : Byte) (check : Half) :
    s.endFrame kind seq body check = s := by
  have huntimely : s.byteTimely begun (body.length + Config.framingBytes) = false := decide_eq_false (Nat.not_le.mpr hlate)
  simp only [State.endFrame, h, huntimely, Bool.false_eq_true, if_false, ite_self]

/-- R166, R167: a last check byte that comes in time closes the frame. -/
theorem State.endFrame_timely {s : State} {room : Bool} {begun : Nat} {body : List Byte} (h : s.parser = .frame room begun)
    (hbody : body.length ≤ 1040) (htime : s.now ≤ begun + (body.length + 6) * 10000) (kind seq : Byte) (check : Half) :
    s.endFrame kind seq body check = s.closeFrame room ⟨kind, seq, body⟩ check := by
  have htimely : s.byteTimely begun (body.length + Config.framingBytes) = true := decide_eq_true htime
  simp only [State.endFrame, h, htimely, if_true, if_neg (Nat.not_lt.mpr hbody)]

theorem State.breakLength_frame_eq {s : State} {room : Bool} {begun : Nat} {length : Half} (h : s.parser = .frame room begun)
    (hlength : 1040 < length.toNat) :
    s.breakLength length = if s.now ≤ begun + 40000 then (s.setParser .hunt).noteLengthError else s := by
  simp only [State.breakLength, h, State.byteTimely, hlength, true_and, decide_eq_true_eq, Config.maxBody, Config.headBytes,
    Config.byteGap, Nat.reduceMul]

theorem exec_frameReceived (kind seq : Byte) (body : List Byte) (check : Half) (s : State) :
    exec (.frameReceived kind seq body check) s = event s fun u => u.endFrame kind seq body check := rfl

theorem exec_lengthError (length : Half) (s : State) : exec (.lengthError length) s = event s fun u => u.breakLength length := rfl

theorem exec_gapTimeout (s : State) : exec .gapTimeout s = event s State.breakGap := rfl

/-- Settles O6: each event's effect is one equation on the state, and it gives no cause. -/
theorem framesReceived : Obligations.FramesReceived := by
  unfold Obligations.FramesReceived
  intro s
  refine ⟨fun hrun hhunt => ?begun, fun room begun hframe => ?ignored, fun kind seq body check hhunt => ?hunt,
    fun hhunt => ⟨?gap, ?length⟩, fun hrun begun =>
      ⟨fun room kind seq body check hframe hlate => ?late, fun kind seq body hframe hbody htime => ?intact,
      fun kind seq body check hframe hbody htime => ?overrun, fun kind seq body check hframe hbody htime hcheck => ?failure,
      fun room length hframe hlength => ⟨fun hlate => ?lengthLate, fun htime => ?lengthError⟩, fun room hframe => ?gapTimeout⟩⟩
  case begun =>
    have heffect : s.beginFrame = { s with parser := .frame (decide (s.inbound.length < 4)) s.now } := by
      simp only [State.beginFrame, hhunt]
      rfl
    show event s State.beginFrame = _
    rw [event_quiet hrun (by rw [heffect]; constructor <;> rfl), heffect]
    exact congrArg _ (serve_quiet rfl rfl rfl rfl rfl)
  case ignored => exact event_none s State.beginFrame (by simp only [State.beginFrame, hframe])
  case hunt => exact event_none s (fun u => u.endFrame kind seq body check) (State.endFrame_hunt hhunt kind seq body check)
  case gap => exact event_none s State.breakGap (by simp only [State.breakGap, hhunt])
  case length => exact fun length => event_none s (fun u => u.breakLength length) (by simp only [State.breakLength, hhunt])
  case late => exact event_none s (fun u => u.endFrame kind seq body check) (State.endFrame_late hframe hlate kind seq check)
  case intact =>
    have heffect : s.endFrame kind seq body (frameCheck kind seq body) =
        { s with parser := .hunt, inbound := s.inbound ++ [⟨kind, seq, body⟩] } := by
      rw [State.endFrame_timely hframe hbody htime]
      simp [State.closeFrame, State.pushInbound, State.setParser]
    rw [exec_frameReceived, event_quiet hrun (by rw [heffect]; constructor <;> rfl), heffect]
    exact congrArg _ (serve_quiet rfl rfl rfl rfl rfl)
  case overrun =>
    have heffect : s.endFrame kind seq body check = (s.setParser .hunt).noteOverrun := by
      rw [State.endFrame_timely hframe hbody htime]
      rfl
    rw [exec_frameReceived, event_quiet hrun (by rw [heffect]; constructor <;> rfl), heffect]
    rfl
  case failure =>
    have heffect : s.endFrame kind seq body check = (s.setParser .hunt).noteCheckFailure := by
      rw [State.endFrame_timely hframe hbody htime]
      simp [State.closeFrame, hcheck]
    rw [exec_frameReceived, event_quiet hrun (by rw [heffect]; constructor <;> rfl), heffect]
    rfl
  case lengthLate =>
    exact event_none s (fun u => u.breakLength length)
      ((State.breakLength_frame_eq hframe hlength).trans (if_neg (Nat.not_le.mpr hlate)))
  case lengthError =>
    have heffect : s.breakLength length = (s.setParser .hunt).noteLengthError :=
      (State.breakLength_frame_eq hframe hlength).trans (if_pos htime)
    rw [exec_lengthError, event_quiet hrun (by rw [heffect]; constructor <;> rfl), heffect]
    rfl
  case gapTimeout =>
    have heffect : s.breakGap = ((s.clockTo (begun + 10000)).setParser .hunt).noteGapTimeout := by
      simp only [State.breakGap, hframe]
    rw [exec_gapTimeout, event_quiet hrun (by rw [heffect]; constructor <;> rfl), heffect]
    rfl

/-- R160: one buffer that returns lifts NO_BUFFER from the requests that are not ACTIVE. -/
theorem Request.afterReturn_one (r : Request) :
    r.afterReturn 1 =
      if r.holds.noBuffer = true ∧ r.status ≠ .active then
        { r with
          holds := { r.holds with noBuffer := false }
          status := if r.holds.spindle || r.holds.barrier || r.holds.noData then .held else .queued }
      else r := by
  by_cases hactive : r.status = .active <;> simp [Request.afterReturn, Request.withHolds, hactive]

/-- Settles O7: an RDATA's buffer returns by `State.returnBuffers_eq`; any other frame's end gives no cause, and the line is idle for the
arbiter. -/
theorem transmissionEnds : Obligations.TransmissionEnds := by
  unfold Obligations.TransmissionEnds
  intro s hrun
  refine ⟨fun hline => ?idle, fun f hline hplain => ?plain, fun f hline hbuffer => ⟨_, event_running s _ hrun, ?frame, ?table⟩⟩
  case idle => exact event_none _ _ (by simp only [State.endTransmission, hline])
  case plain =>
    have heffect : s.endTransmission = { s with line := none } := by
      simp only [State.endTransmission, hline, hplain, Bool.false_eq_true, if_false, State.returnBuffers, if_true]
      rfl
    show event s State.endTransmission = _
    rw [event_quiet hrun (by rw [heffect]; constructor <;> rfl), heffect]
    simp [serve, hline]
  case frame =>
    simp only [State.endTransmission, hline, hbuffer, if_true, State.returnBuffers_eq]
    rfl
  case table =>
    simp only [State.endTransmission, hline, hbuffer, if_true, State.returnBuffers_eq, State.setLine]
    exact List.map_congr_left fun r _ => r.afterReturn_one

end Sys2Proof.Machine
end

section
/-! The bodies of the frames that the device sends (O8, O13: R171 to R176, R191, R192, Tables 9-4 to 9-8). A set of bits is sent as the
sum of their weights, and a record is a list of fields of fixed length, from which each field is cut. -/

-- One declaration after another: elaborated in parallel, these files ask for more memory than a check has.
set_option Elab.async false

namespace Sys2Proof.Machine

/-! Table 9-5: sets of bits -/

theorem flagsByte_eq (f : Flags) :
    flagsByte f = BitVec.ofNat 8
      ((if f.barrier then 1 else 0) + (if f.urgent then 2 else 0) + (if f.tolerate then 4 else 0) +
        (if f.verifyAfter then 8 else 0) + (if f.noRetry then 16 else 0)) := by
  obtain ⟨b0, b1, b2, b3, b4⟩ := f
  revert b0 b1 b2 b3 b4
  decide

theorem holdsByte_eq (h : Holds) :
    holdsByte h = BitVec.ofNat 8
      ((if h.spindle then 1 else 0) + (if h.barrier then 2 else 0) + (if h.noData then 4 else 0) +
        (if h.noBuffer then 8 else 0)) := by
  obtain ⟨b0, b1, b2, b3⟩ := h
  revert b0 b1 b2 b3
  decide

theorem eventSetByte_eq (e : EventSet) :
    eventSetByte e = BitVec.ofNat 8
      ((if e.stateChange then 1 else 0) + (if e.wprChange then 2 else 0) + (if e.positionLost then 4 else 0) +
        (if e.armLost then 8 else 0) + (if e.attention then 16 else 0)) := by
  obtain ⟨b0, b1, b2, b3, b4⟩ := e
  revert b0 b1 b2 b3 b4
  decide

/-- Table 9-4: the presence byte of a DONE. -/
theorem presenceByte_eq (d : DoneRecord) :
    presenceByte d = BitVec.ofNat 8 ((if d.firstSuspect = none then 0 else 1) + (if d.cause = none then 0 else 2) +
      (if d.failing = none then 0 else 4)) := by
  have hbits : ∀ a b c : Bool,
      bitsByte [a, b, c] = BitVec.ofNat 8 ((if a then 1 else 0) + (if b then 2 else 0) + (if c then 4 else 0)) := by decide
  have hweight {α : Type} (x : Option α) (k : Nat) : (if x.isSome = true then k else 0) = if x = none then 0 else k := by
    cases x <;> simp
  rw [presenceByte, hbits, hweight, hweight, hweight]

/-- R165: the four bytes of a word are its base-256 digits. -/
theorem le32_eq (w : Word) :
    le32 w = [BitVec.ofNat 8 w.toNat, BitVec.ofNat 8 (w.toNat / 256), BitVec.ofNat 8 (w.toNat / 65536),
      BitVec.ofNat 8 (w.toNat / 16777216)] := by
  have hdigit (k : Nat) : w.extractLsb' k 8 = BitVec.ofNat 8 (w.toNat / 2 ^ k) := by
    apply BitVec.eq_of_toNat_eq
    rw [BitVec.extractLsb'_toNat, BitVec.toNat_ofNat, Nat.shiftRight_eq_div_pow]
  simp [le32, hdigit]

@[simp] theorem le16Nat_length (n : Nat) : (le16Nat n).length = 2 := rfl

@[simp] theorem le32_length (w : Word) : (le32 w).length = 4 := rfl

@[simp] theorem le32Nat_length (n : Nat) : (le32Nat n).length = 4 := rfl

@[simp] theorem le32_take (w : Word) : (le32 w).take 4 = le32 w := rfl

@[simp] theorem le32Nat_take (n : Nat) : (le32Nat n).take 4 = le32Nat n := rfl

@[simp] theorem addrBytes_length (a : Addr) : (addrBytes a).length = 4 := rfl

/-! R172, R173: the arbiter -/

/-- R172, R173: with the line idle, and a transmission ended or a source filled, the arbiter chooses. -/
theorem serve_arbitrates {b a : State} (hidle : a.line = none) (hcause : b.line.isSome = true ∨ sourceFilled b a = true) :
    serve b a = a.arbitrate := by
  rw [serve, if_pos]
  simpa [hidle] using hcause

theorem Notice.isPending_iff (n : Notice) : n.isPending = true ↔ n ≠ ⟨0, 0, 0, 0⟩ := by
  simp [Notice.isPending]

theorem Notice.isPending_eq_false_iff (n : Notice) : n.isPending = false ↔ n = ⟨0, 0, 0, 0⟩ := by
  simp [Notice.isPending]

/-- R172: what it is for a source to have become non-empty. -/
theorem sourceFilled_iff (b a : State) :
    sourceFilled b a = true ↔
      (b.replies = [] ∧ a.replies ≠ []) ∨ (b.notice = ⟨0, 0, 0, 0⟩ ∧ a.notice ≠ ⟨0, 0, 0, 0⟩) ∨
        (b.events = [] ∧ a.events ≠ []) ∨ (b.stream = [] ∧ a.stream ≠ []) := by
  simp only [sourceFilled, Bool.or_eq_true, Bool.and_eq_true, Bool.not_eq_true', List.isEmpty_iff, List.isEmpty_eq_false_iff,
    Notice.isPending_iff, Notice.isPending_eq_false_iff, or_assoc]

/-- R175: a DONE's body, an absent field sent as zero. -/
theorem doneBody_eq (d : DoneRecord) :
    doneBody d =
      [byteOf d.tag.val, outcomeByte d.outcome,
        BitVec.ofNat 8 ((if d.firstSuspect = none then 0 else 1) + (if d.cause = none then 0 else 2) +
          (if d.failing = none then 0 else 4))] ++
        le16Nat d.done ++ le16Nat d.next.cylinder ++ [byteOf d.next.surface, byteOf d.next.sector, byteOf d.retries] ++
        le16Nat d.suspects ++
        (match d.firstSuspect with
          | none => [0, 0]
          | some k => le16Nat k) ++
        [causeByte d.cause] ++
        (match d.failing with
          | none => [0, 0, 0, 0]
          | some x => le16Nat x.cylinder ++ [byteOf x.surface, byteOf x.sector]) := by
  have hsuspect : le16Nat (d.firstSuspect.getD 0) =
      match d.firstSuspect with
        | none => [0, 0]
        | some k => le16Nat k := by
    cases d.firstSuspect <;> rfl
  have hfailing : addrBytes (d.failing.getD ⟨0, 0, 0⟩) =
      match d.failing with
        | none => [0, 0, 0, 0]
        | some x => le16Nat x.cylinder ++ [byteOf x.surface, byteOf x.sector] := by
    cases d.failing <;> rfl
  rw [doneBody, presenceByte_eq, hsuspect, hfailing]
  simp [addrBytes, finByte]

section
variable {a : State}

theorem State.arbitrate_notice (hr : a.replies = []) (hn : a.notice ≠ ⟨0, 0, 0, 0⟩) :
    a.arbitrate = (a.setNotice .zero).transmit 0x85 (noticeBody a.notice) false := by
  simp only [State.arbitrate, hr, (Notice.isPending_iff _).mpr hn, if_true]

/-- R172: with neither replies nor a notice, the arbiter goes by the Event Queue and then by the Stream. -/
theorem State.arbitrate_eq (hr : a.replies = []) (hn : a.notice = ⟨0, 0, 0, 0⟩) :
    a.arbitrate = match a.events with
      | e :: rest => (a.setEvents rest).transmit 0x84 (eventBody e) false
      | [] =>
        match a.stream with
        | .rdata b p x y :: rest => (a.setStream rest).transmit 0x82 (rdataBody b p x y) true
        | .done d :: rest => (a.setStream rest).transmit 0x83 (doneBody d) false
        | [] => a := by
  simp only [State.arbitrate, hr, (Notice.isPending_eq_false_iff _).mpr hn, Bool.false_eq_true, if_false] <;> rfl

theorem State.arbitrate_event {e : EventRecord} {rest : List EventRecord} (hr : a.replies = []) (hn : a.notice = ⟨0, 0, 0, 0⟩)
    (he : a.events = e :: rest) : a.arbitrate = (a.setEvents rest).transmit 0x84 (eventBody e) false := by
  simp only [State.arbitrate_eq hr hn, he]

theorem State.arbitrate_rdata {buffer : Buffer} {p : Port} {addr : Addr} {suspect : Bool} {rest : List StreamEntry}
    (hr : a.replies = []) (hn : a.notice = ⟨0, 0, 0, 0⟩) (he : a.events = []) (hs : a.stream = .rdata buffer p addr suspect :: rest) :
    a.arbitrate = (a.setStream rest).transmit 0x82 (rdataBody buffer p addr suspect) true := by
  simp only [State.arbitrate_eq hr hn, he, hs]

theorem State.arbitrate_done {d : DoneRecord} {rest : List StreamEntry} (hr : a.replies = []) (hn : a.notice = ⟨0, 0, 0, 0⟩)
    (he : a.events = []) (hs : a.stream = .done d :: rest) :
    a.arbitrate = (a.setStream rest).transmit 0x83 (doneBody d) false := by
  simp only [State.arbitrate_eq hr hn, he, hs]

theorem State.arbitrate_empty (hr : a.replies = []) (hn : a.notice = ⟨0, 0, 0, 0⟩) (he : a.events = []) (hs : a.stream = []) :
    a.arbitrate = a := by
  simp only [State.arbitrate_eq hr hn, he, hs]

end

/-- Settles O8: the arbiter's choice source by source, each frame's body as it is laid out. -/
theorem arbiterServes : Obligations.ArbiterServes := by
  unfold Obligations.ArbiterServes
  intro b a
  refine ⟨serve_busy b a, fun hidle hline hfilled => ?waits, fun hidle hcause => ?chooses, sourceFilled_iff b a, rfl, rfl, rfl, rfl,
    eventSetByte_eq, fun n hn => le16Nat_eq hn⟩
  case waits => exact serve_idle b a hline hfilled
  case chooses =>
    rw [serve_arbitrates hidle hcause]
    refine ⟨fun r rest hr => arbitrate_reply a r rest hr, fun hr hn => State.arbitrate_notice hr hn,
      fun e rest hr hn he => State.arbitrate_event hr hn he, fun buffer p addr suspect rest hr hn he hs => ?rdata,
      fun d rest hr hn he hs => ?done, fun hr hn he hs => State.arbitrate_empty hr hn he hs⟩
    case rdata =>
      rw [State.arbitrate_rdata hr hn he hs]
      simp [State.transmit, State.setStream, rdataBody, addrBytes, finByte, flagByte]
    case done =>
      rw [State.arbitrate_done hr hn he hs, doneBody_eq]
      rfl

/-! R176: the records of STATUS -/

@[simp] theorem geometryBytes_length (g : Option Geometry) : (geometryBytes g).length = 4 := by cases g <;> rfl

@[simp] theorem trackerBytes_length (t : Tracker) : (trackerBytes t).length = 7 := rfl

@[simp] theorem armCylinderBytes_length (a : Arm) : (armCylinderBytes a).length = 2 := by cases a <;> rfl

@[simp] theorem idleRemaining_length (now : Nat) (d : Option Nat) : (idleRemaining now d).length = 4 := by cases d <;> rfl

@[simp] theorem fillBytes_length (w : Option Word) : (fillBytes w).length = 5 := by cases w <;> rfl

@[simp] theorem suspectIndexBytes_length (k : Option Nat) : (suspectIndexBytes k).length = 3 := by cases k <;> rfl

/-- Table 9-7, R175: an arm's state, cylinder and owner. -/
theorem armBytes_eq (a : Arm) :
    armByte a :: armCylinderBytes a ++ [optFinByte a.owner] =
      match a with
        | .unknown => [0, 0xFF, 0xFF, 0xFF]
        | .restoring _ => [1, 0, 0, 0xFF]
        | .settled c => 2 :: le16Nat c ++ [0xFF]
        | .seeking c none _ => 3 :: le16Nat c ++ [0xFF]
        | .seeking c (some t) _ => 3 :: le16Nat c ++ [byteOf t.val] := by
  cases a with
  | seeking c owner d => cases owner <;> rfl
  | _ => rfl

/-- Table 9-7: the spindle record as its fields one after another. -/
theorem spindleRecord_eq (s : State) (p : Port) :
    spindleRecord s p = [stateByte (s.spindle p).state, causeByte (s.spindle p).cause] ++ (geometryBytes (s.spindle p).geometry ++
      ([flagByte (s.spindle p).pinned, flagByte (s.spindle p).respin, flagByte (s.spindle p).lines.wpr] ++
      ([flagByte (s.spindle p).tracker.tracked,
          (if (s.spindle p).tracker.tracked then byteOf (s.spindle p).tracker.sector else 0),
          byteOf (s.spindle p).tracker.errors] ++
      (le32Nat ((s.spindle p).tracker.period.getD 0) ++
      ((armByte (s.spindle p).arm :: armCylinderBytes (s.spindle p).arm ++ [optFinByte (s.spindle p).arm.owner]) ++
      ([byteOf (s.requestCount p)] ++ idleRemaining s.now (s.spindle p).idleTimer)))))) := by
  simp [spindleRecord, trackerBytes]

/-- Table 9-8: the request record as its fields one after another. -/
theorem requestRecord_eq (s : State) (r : Request) :
    requestRecord s r =
      ([finByte r.tag, kindByte r.kind, finByte r.spindle, flagsByte r.flags] ++ addrBytes r.start ++ le16Nat r.count) ++
      (fillBytes r.fill ++
      (([statusByte r.status, holdsByte r.holds] ++ addrBytes r.next ++ le16Nat r.done ++ le16Nat r.suspects) ++
      (suspectIndexBytes r.firstSuspect ++
      (([byteOf r.retries, byteOf r.budget, flagByte r.overdue, flagByte r.cancelPending] ++ le32Nat (requestAge s.now r)) ++
      stagingBytes r)))) := by
  simp [requestRecord]

/-- Settles O13: the judgement leaves the state alone, and each field is cut out of the record at its place. -/
theorem statusAnswers : Obligations.StatusAnswers := by
  unfold Obligations.StatusAnswers
  intro s seq n
  refine ⟨fun hcan => ?part, fun p hn hcan => ?spindle, fun hn hcan => ?noSpindle, fun t r hn hr hcan => ?request,
    fun t hn hr hcan => ?noRequest, fun hn hcan => ?noTag, fun ph => ?phase, rfl, rfl, flagsByte_eq, holdsByte_eq, le32_eq⟩
  case part =>
    have hj : judgeStatusPart s.popInbound = ⟨.ok, partRecord s, s.popInbound⟩ := rfl
    refine (handle_answer hcan hj).trans ?_
    rw [partRecord, State.admissionList, List.map_map]
    cases s.chan <;> rfl
  case spindle =>
    have hj : judgeStatusSpindle n s.popInbound = ⟨.ok, spindleRecord s p, s.popInbound⟩ := by
      simp only [judgeStatusSpindle, portOf_eq_some_iff.mpr hn]
      rfl
    refine ⟨_, handle_answer hcan hj, ?_⟩
    rw [spindleRecord_eq]
    refine ⟨by simp, by simp, Eq.trans (b := geometryBytes (s.spindle p).geometry) ?_ ?geometry, ?_, ?_, ?_,
      Eq.trans (b := armByte (s.spindle p).arm :: armCylinderBytes (s.spindle p).arm ++ [optFinByte (s.spindle p).arm.owner])
        ?_ ?arm, ?_, Eq.trans (b := idleRemaining s.now (s.spindle p).idleTimer) ?_ ?idle⟩
    case geometry => cases (s.spindle p).geometry <;> rfl
    case arm =>
      rw [armBytes_eq] <;> rfl
    case idle => cases (s.spindle p).idleTimer <;> rfl
    all_goals simp [List.drop_append, List.take_append, List.drop_eq_nil_of_le, List.take_of_length_le]
  case noSpindle =>
    have hj : judgeStatusSpindle n s.popInbound = refuse .badField s.popInbound := by
      have hnone : portOf n = none := dif_neg (by omega)
      simp only [judgeStatusSpindle, hnone]
    exact handle_refuse _ _ _ _ _ _ hcan hj
  case request =>
    have hj : judgeStatusRequest n s.popInbound = ⟨.ok, requestRecord s r, s.popInbound⟩ := by
      simp only [judgeStatusRequest, tagOf_eq_some_iff.mpr hn, State.popInbound_request, hr]
      rfl
    refine ⟨_, handle_answer hcan hj, ?_⟩
    have hstaging : stagingBytes r =
        if r.kind = .write then
          le16Nat r.frontier ++ byteOf r.staged.length :: r.staged.flatMap fun b => le16Nat b.index
        else [0, 0, 0] := by
      cases hk : r.kind <;> simp [stagingBytes, hk]
    rw [requestRecord_eq, ← hstaging]
    have hwhole {l : List Byte} {k : Nat} (hl : l.length ≤ k) : l.take k = l ∧ l.drop k = [] :=
      ⟨List.take_of_length_le hl, List.drop_eq_nil_of_le hl⟩
    refine ⟨by simp [List.take_append, addrBytes, finByte, le16Nat, le16], fun w hw => ?fill, fun hw => ?noFill,
      by simp [List.take_append, addrBytes, le16Nat, le16], fun k hk => ?suspect, fun hk => ?noSuspect,
      by simp [List.drop_append, List.take_append, hwhole, addrBytes, le16Nat, le16, requestAge, wholeMs],
      by simp [List.drop_append, hwhole, addrBytes, le16Nat, le16]⟩
    case fill => simp [List.take_append, addrBytes, le16Nat, le16, hw, fillBytes]
    case noFill => simp [List.take_append, addrBytes, le16Nat, le16, hw, fillBytes]
    case suspect =>
      simp [List.drop_append, hwhole, addrBytes, le16Nat, le16, hk, suspectIndexBytes]
    case noSuspect =>
      simp [List.drop_append, hwhole, addrBytes, le16Nat, le16, hk, suspectIndexBytes]
  case noRequest =>
    have hj : judgeStatusRequest n s.popInbound = refuse .noSuchTag s.popInbound := by
      simp only [judgeStatusRequest, tagOf_eq_some_iff.mpr hn, State.popInbound_request, hr]
    exact handle_refuse _ _ _ _ _ _ hcan hj
  case noTag =>
    have hj : judgeStatusRequest n s.popInbound = refuse .badField s.popInbound := by
      have hnone : tagOf n = none := dif_neg (by omega)
      simp only [judgeStatusRequest, hnone]
    exact handle_refuse _ _ _ _ _ _ hcan hj
  case phase => cases ph <;> rfl

end Sys2Proof.Machine
end

section
/-! Media and frames (O50, O52: R1 to R6, R10 to R13, R165, R169, Tables 1-1, 1-2, 9-2 and 9-3). Words and bytes are each other's inverse
both ways, so that a body read is the body written. -/

-- One declaration after another: elaborated in parallel, these files ask for more memory than a check has.
set_option Elab.async false

namespace Sys2Proof.Machine

/-! R165, R5: bytes read back -/

theorem append_toNat {n m : Nat} (x : BitVec n) (y : BitVec m) : (x ++ y).toNat = x.toNat * 2 ^ m + y.toNat := by
  rw [BitVec.toNat_append, Nat.shiftLeft_eq, Nat.mul_comm, Nat.two_pow_add_eq_or_of_lt y.isLt]

theorem halfOf_toNat (b0 b1 : Byte) : (halfOf b0 b1).toNat = b0.toNat + 256 * b1.toNat := by
  rw [halfOf, append_toNat]
  omega

/-- R5: a word of the media is its four bytes, the least significant first. -/
theorem wordOf_toNat (b0 b1 b2 b3 : Byte) :
    (wordOf b0 b1 b2 b3).toNat = b0.toNat + 256 * b1.toNat + 65536 * b2.toNat + 16777216 * b3.toNat := by
  simp only [wordOf, append_toNat]
  omega

@[simp] theorem le16_halfOf (b0 b1 : Byte) : le16 (halfOf b0 b1) = [b0, b1] := by
  have hlow : (halfOf b0 b1).extractLsb' 0 8 = b0 := by
    apply BitVec.eq_of_toNat_eq
    rw [BitVec.extractLsb'_toNat, halfOf_toNat, Nat.shiftRight_zero]
    omega
  have hhigh : (halfOf b0 b1).extractLsb' 8 8 = b1 := by
    apply BitVec.eq_of_toNat_eq
    rw [BitVec.extractLsb'_toNat, halfOf_toNat, Nat.shiftRight_eq_div_pow]
    omega
  rw [le16, hlow, hhigh]

@[simp] theorem le32_wordOf (b0 b1 b2 b3 : Byte) : le32 (wordOf b0 b1 b2 b3) = [b0, b1, b2, b3] := by
  have hdigit {n : Nat} {b : Byte} (h : n % 256 = b.toNat) : BitVec.ofNat 8 n = b :=
    BitVec.eq_of_toNat_eq ((BitVec.toNat_ofNat ..).trans h)
  have hb0 := b0.isLt
  have hb1 := b1.isLt
  have hb2 := b2.isLt
  have hb3 := b3.isLt
  rw [le32_eq, wordOf_toNat, hdigit (b := b0) (by omega), hdigit (b := b1) (by omega), hdigit (b := b2) (by omega),
    hdigit (b := b3) (by omega)]

/-- R5: the payload of whole words: how many, its bytes back, and each word's four bytes. -/
theorem wordsOfBytes_spec (n : Nat) (payload : List Byte) (h : payload.length = 4 * n) :
    (wordsOfBytes payload).length = n ∧ bytesOfWords (wordsOfBytes payload) = payload ∧
    ∀ k w, (wordsOfBytes payload)[k]? = some w → ∃ b0 b1 b2 b3 : Byte,
      payload[4 * k]? = some b0 ∧ payload[4 * k + 1]? = some b1 ∧ payload[4 * k + 2]? = some b2 ∧ payload[4 * k + 3]? = some b3 ∧
      w.toNat = b0.toNat + 256 * b1.toNat + 65536 * b2.toNat + 16777216 * b3.toNat := by
  induction n generalizing payload with
  | zero =>
    obtain rfl := List.length_eq_zero_iff.mp h
    simp [wordsOfBytes, bytesOfWords]
  | succ n ih =>
    obtain ⟨b0, b1, b2, b3, rest, rfl⟩ : ∃ b0 b1 b2 b3 rest, payload = b0 :: b1 :: b2 :: b3 :: rest := by
      match payload, h with
      | b0 :: b1 :: b2 :: b3 :: rest, _ => exact ⟨b0, b1, b2, b3, rest, rfl⟩
    obtain ⟨hlength, hbytes, hword⟩ := ih rest (by simpa [Nat.mul_succ] using h)
    refine ⟨by simp [wordsOfBytes, hlength], ?_, fun k w hw => ?_⟩
    · simpa [wordsOfBytes, bytesOfWords] using hbytes
    · cases k with
      | zero =>
        obtain rfl : wordOf b0 b1 b2 b3 = w := by simpa [wordsOfBytes] using hw
        exact ⟨b0, b1, b2, b3, rfl, rfl, rfl, rfl, wordOf_toNat b0 b1 b2 b3⟩
      | succ k =>
        have hplace (j : Nat) : (b0 :: b1 :: b2 :: b3 :: rest)[4 * (k + 1) + j]? = rest[4 * k + j]? := by
          rw [show 4 * (k + 1) + j = 4 * k + j + 1 + 1 + 1 + 1 by omega]
          simp only [List.getElem?_cons_succ]
        obtain ⟨c0, c1, c2, c3, h0, h1, h2, h3, hvalue⟩ := hword k w (by simpa [wordsOfBytes] using hw)
        exact ⟨c0, c1, c2, c3, (hplace 0).trans h0, (hplace 1).trans h1, (hplace 2).trans h2, (hplace 3).trans h3, hvalue⟩

/-! R2 to R4, R6: headers and check words -/

theorem classifyHeader_eq (w0 w1 w2 : Word) :
    classifyHeader (some (w0, w1, w2)) =
      if w2 = ~~~ (w0 ^^^ w1) then
        if w1.getLsbD 31 then .formatted ⟨w0.toNat / 65536, w0.toNat % 65536, w1.toNat % 65536⟩ else .unformatted
      else .invalid := by
  have hhigh : (w0.extractLsb' 16 16).toNat = w0.toNat / 65536 := by
    rw [BitVec.extractLsb'_toNat, Nat.shiftRight_eq_div_pow]
    omega
  have hlow (w : Word) : (w.extractLsb' 0 16).toNat = w.toNat % 65536 := by
    rw [BitVec.extractLsb'_toNat, Nat.shiftRight_zero]
  simp only [classifyHeader, headerCheck, hhigh, hlow]

theorem headerWord0_toNat {a : Addr} (hc : a.cylinder < 65536) (hs : a.surface < 65536) :
    (headerWord0 a).toNat = a.cylinder * 65536 + a.surface := by
  rw [headerWord0, append_toNat, BitVec.toNat_ofNat, BitVec.toNat_ofNat, Nat.mod_eq_of_lt hc, Nat.mod_eq_of_lt hs] <;>
    rfl

theorem headerWord1_toNat {sector : Nat} (h : sector < 65536) : (headerWord1 sector).toNat = 0x8000 * 65536 + sector := by
  have hsector : (BitVec.ofNat 16 sector).toNat = sector := (BitVec.toNat_ofNat ..).trans (Nat.mod_eq_of_lt h)
  rw [headerWord1, append_toNat, hsector]
  rfl

/-- R11: a header that a FORMAT writes is read as the address it was written for. -/
theorem classifyHeader_formatHeader {a : Addr} (hc : a.cylinder < 65536) (hs : a.surface < 65536) (hk : a.sector < 65536) :
    classifyHeader (some (formatHeader a)) = .formatted a := by
  have hbit : (headerWord1 a.sector).getLsbD 31 = true := by
    show (0x8000#16 ++ BitVec.ofNat 16 a.sector).getLsbD 31 = true
    rw [BitVec.getLsbD_append]
    rfl
  rw [formatHeader, classifyHeader_eq, headerCheck, if_pos rfl, if_pos hbit, headerWord0_toNat hc hs, headerWord1_toNat hk]
  congr 2 <;> omega

theorem foldl_xor (x : Word) (words : List Word) : words.foldl (· ^^^ ·) x = x ^^^ words.foldl (· ^^^ ·) 0 := by
  induction words generalizing x with
  | nil => simp
  | cons w rest ih => rw [List.foldl_cons, List.foldl_cons, ih, ih (0 ^^^ w), BitVec.xor_assoc, show 0 ^^^ w = w from BitVec.zero_xor]

theorem checkWord_cons (x : Word) (words : List Word) (w0 : Word) : checkWord (x :: words) w0 = x ^^^ checkWord words w0 := by
  rw [checkWord, List.foldl_cons, foldl_xor, show 0 ^^^ x = x from BitVec.zero_xor, BitVec.xor_assoc]
  rfl

/-- R6: the word checked enters the check word once, wherever it stands. -/
theorem checkWord_append_cons (before after : List Word) (x w0 : Word) :
    checkWord (before ++ x :: after) w0 = x ^^^ checkWord (before ++ after) w0 := by
  induction before with
  | nil => exact checkWord_cons x after w0
  | cons w rest ih =>
    rw [List.cons_append, checkWord_cons, ih, List.cons_append, checkWord_cons, ← BitVec.xor_assoc, BitVec.xor_comm w x,
      BitVec.xor_assoc]

/-! R1, Table 1-1: the bytes of a slot -/

@[simp] theorem Region.fill_length (r : Region) (f : Nat → Byte) : (r.fill f).length = r.length := by
  simp [Region.fill]

theorem Region.wordBytes_length {r : Region} (hr : r.length = 4) (place : Nat) (w : Option Word) :
    (r.wordBytes place w).length = 4 := by
  cases w
  · exact (r.fill_length _).trans hr
  · rfl

/-- Table 1-1: every region has its length. -/
theorem Slot.regionBytes_length {v : Slot} (hdata : v.data.length = 256) (place : Nat) (r : Region) :
    (v.regionBytes place r).length = r.length := by
  cases r
  case headerWord0 | headerWord1 | headerWord2 | checkWord => exact Region.wordBytes_length rfl place _
  case sync => cases h : v.sync <;> simp [Slot.regionBytes, h]
  case dataSync => cases h : v.gap <;> simp [Slot.regionBytes, h]
  case gapFiller | trailingGap => exact Region.fill_length _ _
  case dataField => simp [Slot.regionBytes, hdata, Region.length]

/-- Table 1-1: a part of a row of parts is cut out by the lengths of the parts before it. -/
theorem flatMap_cut {α : Type} (f : α → List Byte) (before : List α) (x : α) (after : List α) :
    ((before ++ x :: after).flatMap f |>.drop (before.map fun a => (f a).length).sum).take (f x).length = f x := by
  rw [List.flatMap_append, List.flatMap_cons, List.drop_left' (by simp [List.length_flatMap]), List.take_left' rfl]

/-- Table 1-1: where a region lies in a slot's bytes. -/
theorem slotImage_region {v : Slot} (hdata : v.data.length = 256) (place : Nat) {before after : List Region} {r : Region}
    (h : sectorLayout = before ++ r :: after) :
    ((slotImage place v).drop (before.map Region.length).sum).take r.length = v.regionBytes place r := by
  have hcut := flatMap_cut (v.regionBytes place) before r after
  simp only [Slot.regionBytes_length hdata] at hcut
  rw [slotImage, h]
  exact hcut

theorem slotImage_length {v : Slot} (hdata : v.data.length = 256) (place : Nat) : (slotImage place v).length = 1092 := by
  simp [slotImage, Slot.regionBytes_length hdata, sectorLayout, Region.length]

/-- Table 1-1: the three header words pass one after another. -/
theorem slotImage_header {v : Slot} (hdata : v.data.length = 256) (place : Nat) {w0 w1 w2 : Word}
    (h : v.header = some (w0, w1, w2)) : ((slotImage place v).drop 12).take 12 = le32 w0 ++ le32 w1 ++ le32 w2 := by
  have hcut (before : List Region) (r : Region) (after : List Region) (hlay : sectorLayout = before ++ r :: after) :=
    slotImage_region hdata place hlay
  have h0 : ((slotImage place v).drop 12).take 4 = le32 w0 :=
    (hcut [.sync] .headerWord0 _ rfl).trans (by simp [Slot.regionBytes, h, Region.wordBytes])
  have h1 : ((slotImage place v).drop 16).take 4 = le32 w1 :=
    (hcut [.sync, .headerWord0] .headerWord1 _ rfl).trans (by simp [Slot.regionBytes, h, Region.wordBytes])
  have h2 : ((slotImage place v).drop 20).take 4 = le32 w2 :=
    (hcut [.sync, .headerWord0, .headerWord1] .headerWord2 _ rfl).trans (by simp [Slot.regionBytes, h, Region.wordBytes])
  rw [← h0, ← h1, ← h2, show 12 = 4 + (4 + 4) from rfl, List.take_add, List.take_add, List.drop_drop, List.drop_drop,
    List.append_assoc]

/-- R12: the ends of the regions at which the gate's fall makes a difference. -/
theorem region_places : Region.dataSync.start = 36 ∧ Region.dataSync.stop = 40 ∧ Region.dataField.start = 40 ∧
    Region.checkWord.stop = 1068 ∧ Region.trailingGap.stop = 1092 ∧ Region.sync.stop = 12 ∧ Region.headerWord2.stop = 24 := by
  decide

/-- Settles O50: headers, check words, the slot's bytes and the payload by their own lemmas; the torn slots by the places of the regions
at which their cases change. -/
theorem mediaFormat : Obligations.MediaFormat := by
  unfold Obligations.MediaFormat
  obtain ⟨hgap, hsyncEnd, hdata, hcheck, htrailing, hsync, hheader⟩ := region_places
  refine ⟨fun w0 w1 w2 => ⟨fun h => ?_, fun h hbit => ?_, fun h hbit => ?_⟩, rfl, fun a => classifyHeader_formatHeader,
    fun before after x y w0 w1 => ⟨?_, ?_, ?_, checkWord_cons x after w0⟩, rfl,
    fun place v hv => ⟨slotImage_length hv place, fun w0 w1 w2 h => slotImage_header hv place h, ?_, fun c hc => ?_⟩,
    fun payload h => wordsOfBytes_spec 256 payload h, wordsOfBytes_bytesOfWords, fun old data w0 a fill position =>
    ⟨fun h => ?_, fun h1 h2 => ?_, fun h => ?_, fun h => ?_, fun h => ?_⟩⟩
  · rw [classifyHeader_eq, if_neg h]
  · rw [classifyHeader_eq, if_pos h, hbit]
    rfl
  · rw [classifyHeader_eq, if_pos h, if_pos hbit]
  · rw [checkWord_append_cons, checkWord_append_cons, BitVec.xor_left_inj]
  · exact BitVec.xor_right_inj _
  · exact BitVec.zero_xor
  · exact slotImage_region hv place (before := [.sync, .headerWord0, .headerWord1, .headerWord2, .gapFiller, .dataSync])
      (r := .dataField) rfl
  · exact (slotImage_region hv place (before := [.sync, .headerWord0, .headerWord1, .headerWord2, .gapFiller, .dataSync, .dataField])
      (r := .checkWord) rfl).trans (by simp [Slot.regionBytes, hc, Region.wordBytes])
  · rw [tornSlot, hgap, if_pos h]
  · rw [tornSlot, hgap, hcheck, if_neg (by omega), if_pos h2, hsyncEnd, tornData, wordsBefore, hdata]
  · rw [tornSlot, hgap, hcheck, if_neg (by omega), if_neg (by omega), htrailing]
    rfl
  · rw [tornFormatSlot, hheader, if_pos h, hsync]
  · rw [tornFormatSlot, hheader, if_neg (by omega), hsyncEnd, tornData, wordsBefore, hdata]
    rfl

/-! Tables 9-2 and 9-3: the bodies of the messages -/

theorem submitBody_encode (m : SubmitFields) : submitBody (encodeSubmit m) = .fields m := by
  obtain ⟨tag, kind, spindle, flags, cylinder, surface, sector, count, fill⟩ := m
  cases fill <;> simp [encodeSubmit, le16, le32, submitBody]

theorem submitBody_otherLength {b : List Byte} (h10 : b.length ≠ 10) (h14 : b.length ≠ 14) : submitBody b = .otherLength b := by
  unfold submitBody
  split
  · exact absurd rfl h10
  · exact absurd rfl h14
  · rfl

theorem encodeBody_submitBody (b : List Byte) : encodeBody encodeSubmit (submitBody b) = b := by
  unfold submitBody
  split <;> simp [encodeBody, encodeSubmit]

theorem wdataBody_encode {m : WdataFields} (h : m.payload.length = 1024) : wdataBody (encodeWdata m) = .fields m := by
  simp [encodeWdata, le16, wdataBody, h]

theorem wdataBody_otherLength {b : List Byte} (h : b.length ≠ 1027) : wdataBody b = .otherLength b := by
  unfold wdataBody
  split
  · next payload => exact if_neg fun hp => h (by simp [hp])
  · rfl

theorem encodeBody_wdataBody (b : List Byte) : encodeBody encodeWdata (wdataBody b) = b := by
  unfold wdataBody
  split
  · split <;> simp [encodeBody, encodeWdata]
  · rfl

theorem oneByteBody_otherLength {b : List Byte} (h : b.length ≠ 1) : oneByteBody b = .otherLength b := by
  unfold oneByteBody
  split
  · exact absurd rfl h
  · rfl

theorem encodeBody_oneByteBody (b : List Byte) : encodeBody (fun x => [x]) (oneByteBody b) = b := by
  unfold oneByteBody
  split <;> rfl

/-! R169: a message is the command of its own frame -/

theorem eq_ofNat_of_toNat {b : Byte} {n : Nat} (h : b.toNat = n) : b = BitVec.ofNat 8 n := by
  rw [← h, BitVec.ofNat_toNat, BitVec.setWidth_eq]

theorem decodeFrame_unknownKind {kind : Byte} (h : kind.toNat = 0 ∨ 9 < kind.toNat) (seq : Byte) (body : List Byte) :
    decodeFrame ⟨kind, seq, body⟩ = .unknownKind kind seq body := by
  unfold decodeFrame
  dsimp only
  split
  case h_10 => rfl
  all_goals omega

theorem badUnitctl_pair (spindle action : Byte) :
    badUnitctl [spindle, action] = true ↔ action.toNat ≤ 1 ∨ 5 < action.toNat := by
  simp only [badUnitctl, Bool.not_eq_true', Bool.and_eq_false_iff, decide_eq_false_iff_not]
  omega

theorem decodeUnitctl_bad {body : List Byte} (h : badUnitctl body = true) (seq : Byte) :
    decodeUnitctl seq body = .messageRefusedBadField 0x04 seq body := by
  unfold decodeUnitctl
  split
  · next spindle action =>
    have haction : action.toNat ≤ 1 ∨ 5 < action.toNat := (badUnitctl_pair spindle action).mp h
    split
    case h_5 => rfl
    all_goals omega
  · next spindle action c0 c1 surfaces sectors =>
    have haction : action ≠ 1 := by simpa [badUnitctl] using h
    rw [if_neg haction]
  · rfl

theorem decodeSetp_bad {body : List Byte} (h : badSetp body = true) (seq : Byte) :
    decodeSetp seq body = .messageRefusedBadField 0x05 seq body := by
  unfold decodeSetp
  split
  · next id v0 v1 v2 v3 =>
    have hid : id.toNat = 0 ∨ 13 < id.toNat := by simpa [badSetp] using h
    dsimp only
    split
    case h_14 => rfl
    all_goals omega
  · rfl

theorem decodeStatus_bad {body : List Byte} (h : badStatus body = true) (seq : Byte) :
    decodeStatus seq body = .messageRefusedBadField 0x07 seq body := by
  unfold decodeStatus
  split
  · next selector number =>
    have hselector : 2 < selector.toNat := by simpa [badStatus] using h
    split
    case h_4 => rfl
    all_goals omega
  · rfl

/-- The messages of the BAD_FIELD row are those that no row of their kind takes. -/
theorem decodeFrame_refused {kind : Byte} {body : List Byte} (h : wellFormedRefused kind body = true) (seq : Byte) :
    decodeFrame ⟨kind, seq, body⟩ = .messageRefusedBadField kind seq body := by
  obtain ⟨-, hbad⟩ := Bool.and_eq_true_iff.mp h
  split at hbad
  · next hkind =>
    obtain rfl := eq_ofNat_of_toNat hkind
    exact decodeUnitctl_bad hbad seq
  · next hkind =>
    obtain rfl := eq_ofNat_of_toNat hkind
    exact decodeSetp_bad hbad seq
  · next hkind =>
    obtain rfl := eq_ofNat_of_toNat hkind
    exact decodeStatus_bad hbad seq
  · cases hbad

/-- A well-formed message is what `decodeFrame` makes of its frame. -/
theorem decodeFrame_encodeFrame {i : Instr} (hwf : i.wellFormed = true) (hm : i.isMessage = true) :
    ∃ f : Frame, encodeFrame i = some f ∧ decodeFrame f = i := by
  cases i
  case submit seq m =>
    refine ⟨_, rfl, congrArg (Instr.submit seq) ?_⟩
    cases m with
    | fields m => exact submitBody_encode m
    | otherLength b =>
      have hlength : (b.length ≤ 1040 ∧ b.length ≠ 10) ∧ b.length ≠ 14 := by
        simpa [Instr.wellFormed, wellFormedSubmit, bodyFits] using hwf
      exact submitBody_otherLength hlength.1.2 hlength.2
  case wdata seq m =>
    refine ⟨_, rfl, congrArg (Instr.wdata seq) ?_⟩
    cases m with
    | fields m => exact wdataBody_encode (by simpa [Instr.wellFormed, wellFormedWdata] using hwf)
    | otherLength b =>
      have hlength : b.length ≤ Config.maxBody ∧ b.length ≠ 3 + Config.payloadBytes := by
        simpa [Instr.wellFormed, wellFormedWdata, bodyFits] using hwf
      exact wdataBody_otherLength hlength.2
  case cancel seq m =>
    refine ⟨_, rfl, congrArg (Instr.cancel seq) ?_⟩
    cases m with
    | fields b => rfl
    | otherLength b =>
      have hlength : b.length ≤ 1040 ∧ b.length ≠ 1 := by simpa [Instr.wellFormed, wellFormedByte, bodyFits] using hwf
      exact oneByteBody_otherLength hlength.2
  case getp seq m =>
    refine ⟨_, rfl, congrArg (Instr.getp seq) ?_⟩
    cases m with
    | fields b => rfl
    | otherLength b =>
      have hlength : b.length ≤ 1040 ∧ b.length ≠ 1 := by simpa [Instr.wellFormed, wellFormedByte, bodyFits] using hwf
      exact oneByteBody_otherLength hlength.2
  case unknownKind kind seq body =>
    have hkind : body.length ≤ Config.maxBody ∧ (kind.toNat = 0 ∨ 9 < kind.toNat) := by
      simpa [Instr.wellFormed, bodyFits] using hwf
    exact ⟨_, rfl, decodeFrame_unknownKind hkind.2 seq body⟩
  case messageRefusedBadField kind seq body => exact ⟨_, rfl, decodeFrame_refused hwf seq⟩
  case configure seq spindle cylinders surfaces sectors =>
    exact ⟨_, rfl, by simp [decodeFrame, decodeUnitctl, le16]⟩
  case setpSpinLimit | setpSurgeLimit | setpSpinupTimeout | setpSpindownTimeout | setpIdleTimeout | setpSeekTimeout | setpRevLimit |
      setpRetryLimit | setpBurstLimit | setpAgeLimit | setpStageDepth | setpReadReserve | setpTrackFaultLimit =>
    exact ⟨_, rfl, by simp [decodeFrame, setpFrame, decodeSetp, le32]⟩
  case deconfigure | spinUp | spinDown | clearFault | statusPart | statusSpindle | statusRequest | echo | restart =>
    exact ⟨_, rfl, rfl⟩
  all_goals cases hm

/-! R169: every frame is a well-formed message's -/

/-- The command of a frame is a well-formed message that has that frame. -/
def CommandOf (f : Frame) (i : Instr) : Prop := encodeFrame i = some f ∧ i.wellFormed = true ∧ i.isMessage = true

theorem commandOf_submit (seq : Byte) {body : List Byte} (h : body.length ≤ 1040) :
    CommandOf ⟨0x01, seq, body⟩ (.submit seq (submitBody body)) := by
  refine ⟨congrArg (fun b => some (Frame.mk 0x01 seq b)) (encodeBody_submitBody body), ?_, rfl⟩
  unfold submitBody
  split
  · rfl
  · rfl
  · next h10 h14 =>
    have hlength10 : body.length ≠ 10 := fun hl => by
      match body, hl, h10 with
      | [_, _, _, _, _, _, _, _, _, _], _, hno => exact hno _ _ _ _ _ _ _ _ _ _ rfl
    have hlength14 : body.length ≠ 14 := fun hl => by
      match body, hl, h14 with
      | [_, _, _, _, _, _, _, _, _, _, _, _, _, _], _, hno => exact hno _ _ _ _ _ _ _ _ _ _ _ _ _ _ rfl
    simpa [Instr.wellFormed, wellFormedSubmit, bodyFits, hlength10, hlength14] using h

theorem commandOf_wdata (seq : Byte) {body : List Byte} (h : body.length ≤ 1040) :
    CommandOf ⟨0x02, seq, body⟩ (.wdata seq (wdataBody body)) := by
  refine ⟨congrArg (fun b => some (Frame.mk 0x02 seq b)) (encodeBody_wdataBody body), ?_, rfl⟩
  unfold wdataBody
  split
  · next tag i0 i1 payload =>
    split
    · next hpayload => simp [Instr.wellFormed, wellFormedWdata, hpayload]
    · next hpayload =>
      have hlength : payload.length + 1 + 1 + 1 ≠ 3 + Config.payloadBytes := by omega
      have hfits : bodyFits (tag :: i0 :: i1 :: payload) = true := decide_eq_true h
      simp [Instr.wellFormed, wellFormedWdata, hfits, hlength]
  · next hshort =>
    have hlength : body.length < 3 := by
      match body, hshort with
      | [], _ | [_], _ | [_, _], _ => simp
      | _ :: _ :: _ :: _, hno => exact absurd rfl (hno _ _ _ _)
    have hother : body.length ≠ 3 + Config.payloadBytes := by omega
    simpa [Instr.wellFormed, wellFormedWdata, bodyFits, hother] using h

theorem wellFormedByte_oneByteBody {body : List Byte} (h : body.length ≤ 1040) : wellFormedByte (oneByteBody body) = true := by
  unfold oneByteBody
  split
  · rfl
  · next hother =>
    have hlength : body.length ≠ 1 := fun hl => by
      match body, hl, hother with
      | [_], _, hno => exact hno _ rfl
    simpa [wellFormedByte, bodyFits, hlength] using h

theorem commandOf_cancel (seq : Byte) {body : List Byte} (h : body.length ≤ 1040) :
    CommandOf ⟨0x03, seq, body⟩ (.cancel seq (oneByteBody body)) :=
  ⟨congrArg (fun b => some (Frame.mk 0x03 seq b)) (encodeBody_oneByteBody body), wellFormedByte_oneByteBody h, rfl⟩

theorem commandOf_getp (seq : Byte) {body : List Byte} (h : body.length ≤ 1040) :
    CommandOf ⟨0x06, seq, body⟩ (.getp seq (oneByteBody body)) :=
  ⟨congrArg (fun b => some (Frame.mk 0x06 seq b)) (encodeBody_oneByteBody body), wellFormedByte_oneByteBody h, rfl⟩

theorem commandOf_refused {kind : Byte} {body : List Byte} (h : body.length ≤ 1040) (seq : Byte)
    (hbad : wellFormedRefused kind body = (bodyFits body && true)) :
    CommandOf ⟨kind, seq, body⟩ (.messageRefusedBadField kind seq body) :=
  ⟨rfl, by simpa [Instr.wellFormed, hbad, bodyFits] using h, rfl⟩

theorem commandOf_unitctl (seq : Byte) {body : List Byte} (h : body.length ≤ 1040) :
    CommandOf ⟨0x04, seq, body⟩ (decodeUnitctl seq body) := by
  unfold decodeUnitctl
  split
  · next spindle action =>
    split
    case h_5 =>
      refine commandOf_refused h seq (congrArg (bodyFits _ && ·) ?_)
      have hother : action.toNat ≤ 1 ∨ 5 < action.toNat := by
        simp only [imp_false] at *
        omega
      exact (badUnitctl_pair spindle action).mpr hother
    all_goals
      next haction =>
      obtain rfl := eq_ofNat_of_toNat haction
      exact ⟨rfl, rfl, rfl⟩
  · next spindle action c0 c1 surfaces sectors =>
    split
    · next haction =>
      subst haction
      exact ⟨by simp [encodeFrame], rfl, rfl⟩
    · next haction => exact commandOf_refused h seq (congrArg (bodyFits _ && ·) (by simpa [badUnitctl] using haction))
  · next h2 h6 =>
    refine commandOf_refused h seq (congrArg (bodyFits _ && ·) ?_)
    show badUnitctl body = true
    unfold badUnitctl
    split
    · exact absurd rfl (h2 _ _)
    · exact absurd rfl (h6 _ _ _ _ _ _)
    · rfl

theorem commandOf_setp (seq : Byte) {body : List Byte} (h : body.length ≤ 1040) :
    CommandOf ⟨0x05, seq, body⟩ (decodeSetp seq body) := by
  unfold decodeSetp
  split
  · next id v0 v1 v2 v3 =>
    dsimp only
    split
    case h_14 =>
      refine commandOf_refused h seq (congrArg (bodyFits _ && ·) ?_)
      have hother : id.toNat = 0 ∨ 13 < id.toNat := by
        simp only [imp_false] at *
        omega
      simpa [badSetp] using hother
    all_goals
      next hid =>
      obtain rfl := eq_ofNat_of_toNat hid
      exact ⟨by simp [encodeFrame, setpFrame], rfl, rfl⟩
  · next h5 =>
    refine commandOf_refused h seq (congrArg (bodyFits _ && ·) ?_)
    show badSetp body = true
    unfold badSetp
    split
    · exact absurd rfl (h5 _ _ _ _ _)
    · rfl

theorem commandOf_status (seq : Byte) {body : List Byte} (h : body.length ≤ 1040) :
    CommandOf ⟨0x07, seq, body⟩ (decodeStatus seq body) := by
  unfold decodeStatus
  split
  · next selector number =>
    split
    case h_4 =>
      refine commandOf_refused h seq (congrArg (bodyFits _ && ·) ?_)
      have hother : 2 < selector.toNat := by
        simp only [imp_false] at *
        omega
      simpa [badStatus] using hother
    all_goals
      next hselector =>
      obtain rfl := eq_ofNat_of_toNat hselector
      exact ⟨rfl, rfl, rfl⟩
  · next h2 =>
    refine commandOf_refused h seq (congrArg (bodyFits _ && ·) ?_)
    show badStatus body = true
    unfold badStatus
    split
    · exact absurd rfl (h2 _ _)
    · rfl

theorem commandOf_decodeFrame {f : Frame} (h : f.body.length ≤ 1040) : CommandOf f (decodeFrame f) := by
  obtain ⟨kind, seq, body⟩ := f
  have hbody : bodyFits body = true := decide_eq_true h
  unfold decodeFrame
  dsimp only
  split
  case h_10 =>
    have hother : kind.toNat = 0 ∨ 9 < kind.toNat := by
        simp only [imp_false] at *
        omega
    exact ⟨rfl, by simpa [Instr.wellFormed, hbody] using hother, rfl⟩
  all_goals
    rename_i hkind
    obtain rfl := eq_ofNat_of_toNat hkind
  · exact commandOf_submit seq h
  · exact commandOf_wdata seq h
  · exact commandOf_cancel seq h
  · exact commandOf_unitctl seq h
  · exact commandOf_setp seq h
  · exact commandOf_getp seq h
  · exact commandOf_status seq h
  · exact ⟨rfl, hbody, rfl⟩
  · exact ⟨rfl, hbody, rfl⟩

/-- Settles O52: `decodeFrame_encodeFrame` one way, and `commandOf_decodeFrame` the other. -/
theorem framesAndCommandsAgree : Obligations.FramesAndCommandsAgree := by
  unfold Obligations.FramesAndCommandsAgree
  exact ⟨fun _ hwf hm => decodeFrame_encodeFrame hwf hm, fun _ h => commandOf_decodeFrame h⟩

end Sys2Proof.Machine
end

section
/-! The decisions after a sector (O46, O47: R68, R127, R128, R130, R134 to R138, Tables 7-3 and 7-4), and the invariants at reset (O53). -/

-- One declaration after another: elaborated in parallel, these files ask for more memory than a check has.
set_option Elab.async false

namespace Sys2Proof.Machine

/-! The channel's record -/

theorem State.modChan_eq {s : State} {e : Engagement} (h : s.chan = some e) (f : Engagement → Engagement) :
    s.modChan f = { s with chan := some (f e) } := by
  rw [State.modChan, h]
  rfl

theorem Engagement.searchFor_eq (e : Engagement) (a : Addr) : e.searchFor a = e.searching a := rfl

theorem writeStarved_iff (r : Request) : writeStarved r = true ↔ r.kind = .write ∧ r.staged = [] := by
  simp [writeStarved]

/-! Table 7-3 -/

section
variable {s : State} {e : Engagement} {r : Request} (hchan : s.chan = some e) (hr : s.request e.tag = some r)
include hchan hr

/-- R134: the decisions after a sector end, in their order. -/
theorem State.afterSector_eq (retry : Bool) :
    s.afterSector retry =
      if r.cancelPending then s.complete e.tag .cancelled none
      else if retry then { s with chan := some (e.searching e.target) }
      else if e.index = r.count then s.endWith .runEnd
      else if s.params.burstLimit ≤ e.burst then s.endWith .burstLimit
      else if (s.addressOfIndex r e.index).cylinder = e.target.cylinder ∧ (s.addressOfIndex r e.index).surface ≠ e.target.surface then
        s.endWith .trackEnd
      else if (s.addressOfIndex r e.index).cylinder ≠ e.target.cylinder then s.endWith .cylinderEnd
      else if writeStarved r then s.endWith .stagedEmpty
      else { s with chan := some (e.searching (s.addressOfIndex r e.index)) } := by
  simp only [State.afterSector, hchan, hr, State.runAddress_eq, State.modChan_eq hchan, Engagement.searchFor_eq]

/-! Table 7-4 -/

theorem State.endWith_pending {entry : PendingEntry} {rest : List PendingEntry} (hpending : e.pending = entry :: rest)
    (ending : Ending) : s.endWith ending = s.passBegun e r entry ending := by
  simp only [State.endWith, hchan, hpending, State.beginPass, State.modChan_eq hchan, hr, State.runAddress_eq]
  rw [State.passBegun, hpending]

omit hr in
theorem State.endWith_clear (hpending : e.pending = []) (ending : Ending) : s.endWith ending = s.carryOut e ending := by
  simp only [State.endWith, hchan, hpending]

omit hchan in
theorem State.completeRun_eq : s.completeRun e.tag = s.complete e.tag r.endOutcome none := by
  simp only [State.completeRun, hr]
  rfl

omit hchan in
theorem State.carryOut_trackEnd_starved (h : writeStarved r = true) : s.carryOut e .trackEnd = s.release e.tag false := by
  simp only [State.carryOut, hr, h, if_true]

theorem State.carryOut_trackEnd_switch (h : writeStarved r = false) :
    s.carryOut e .trackEnd = { s with chan := some (e.searching (s.addressOfIndex r e.index)) } := by
  simp only [State.carryOut, hr, h, Bool.false_eq_true, if_false, State.headSwitch, State.modChan_eq hchan, State.runAddress_eq,
    Engagement.searchFor_eq]

end

/-- Settles O46: `State.afterSector_eq`, clause by clause. -/
theorem sectorDecisions : Obligations.SectorDecisions := by
  unfold Obligations.SectorDecisions
  intro s e r retry next hchan hr hnext
  subst hnext
  have hdecide := State.afterSector_eq hchan hr
  refine ⟨fun hcancel => ?_, fun hcancel => ⟨fun _ => ?_, fun _ => ⟨fun hend => ?_, fun hend => ⟨fun hburst => ?_, fun hburst =>
    ⟨fun hcylinder hsurface => ?_, fun hcylinder => ?_, fun hcylinder hsurface => ⟨fun hkind hstaged => ?_, fun hmore => ?_⟩⟩⟩⟩⟩⟩
  · rw [hdecide, if_pos hcancel]
  all_goals rw [hdecide, if_neg (Bool.eq_false_iff.mp hcancel)]
  · rw [if_pos rfl]
  all_goals rw [if_neg Bool.false_ne_true]
  · rw [if_pos hend]
  all_goals rw [if_neg hend]
  · rw [if_pos hburst]
  all_goals rw [if_neg (Nat.not_le.mpr hburst)]
  · rw [if_pos ⟨hcylinder, hsurface⟩]
  · rw [if_neg fun h => hcylinder h.1, if_pos hcylinder]
  all_goals rw [if_neg fun h => h.2 hsurface, if_neg (Classical.not_not.mpr hcylinder)]
  · rw [if_pos ((writeStarved_iff r).mpr ⟨hkind, hstaged⟩)]
  · rw [if_neg fun h => hmore.elim (fun hk => hk ((writeStarved_iff r).mp h).1) fun hs => hs ((writeStarved_iff r).mp h).2]

/-! R68, R128: a position error -/

/-- R59: a restore issued on a READY spindle: its record, and its frame. -/
theorem State.issueRestore_changes {s : State} {p : Port} (h : (s.spindle p).state = .ready) :
    s.issueRestore p = { s with spindles := (s.issueRestore p).spindles } ∧
    (s.issueRestore p).spindle p = { s.spindle p with
      arm := .restoring (s.now + s.params.seekTimeout * 1000)
      orders := { (s.spindle p).orders with restoreStrobes := (s.spindle p).orders.restoreStrobes + 1 } } ∧
    ∀ q : Port, q ≠ p → (s.issueRestore p).spindle q = s.spindle q := by
  rw [State.issueRestore, if_pos h]
  exact s.modSpindle_changes p _

theorem State.issueRestore_idle {s : State} {p : Port} (h : (s.spindle p).state ≠ .ready) : s.issueRestore p = s := if_neg h

/-- R68: on a READY spindle, ARM_LOST posted and a restore issued, as one change of the arm. -/
theorem State.armLost_changes {s : State} {p : Port} (h : (s.spindle p).state = .ready) :
    s.armLost p = { s with
      spindles := (s.armLost p).spindles
      events := postInto p ⟨false, false, false, true, false⟩ .ready none s.events } ∧
    (s.armLost p).spindle p = { s.spindle p with
      arm := .restoring (s.now + s.params.seekTimeout * 1000)
      orders := { (s.spindle p).orders with restoreStrobes := (s.spindle p).orders.restoreStrobes + 1 } } ∧
    ∀ q : Port, q ≠ p → (s.armLost p).spindle q = s.spindle q := by
  have hready : (((s.modSpindle p fun r => { r with arm := .unknown }).post p eventArmLost).spindle p).state = .ready := by
    simpa using h
  obtain ⟨hframe, hsame, hother⟩ := State.issueRestore_changes hready
  refine ⟨?_, ?_, fun q hq => ?_⟩
  · have hevents : ((s.modSpindle p fun r => { r with arm := .unknown }).post p eventArmLost).events =
        postInto p ⟨false, false, false, true, false⟩ .ready none s.events := by
      simp [State.post, h, eventArmLost]
    rw [← hevents]
    exact hframe
  · rw [State.armLost, hsame]
    simp
  · rw [State.armLost, hother q hq, State.post_spindle, State.spindle_modSpindle, if_neg (Ne.symm hq)]

@[simp] theorem State.armLost_request (s : State) (p : Port) (t : Tag) : (s.armLost p).request t = s.request t :=
  State.request_congr (by simp) t

/-- Settles O47: the endings one by one; a position error with budget left spends a retry and releases. -/
theorem endings : Obligations.Endings := by
  unfold Obligations.Endings
  intro s e r ending hchan hr
  have hlost : (s.armLost e.spindle).request e.tag = some r := (s.armLost_request _ _).trans hr
  refine ⟨fun entry rest h => State.endWith_pending hchan hr h ending, fun h => State.endWith_clear hchan h ending,
    State.completeRun_eq hr, rfl, rfl, rfl, fun hk hs => State.carryOut_trackEnd_starved hr ((writeStarved_iff r).mpr ⟨hk, hs⟩),
    fun hmore => State.carryOut_trackEnd_switch hchan hr ?more, rfl, rfl, fun hbudget => ?spent, fun hbudget => ?left,
    State.armLost_changes⟩
  case more =>
    refine Bool.eq_false_iff.mpr fun h => ?_
    obtain ⟨hk, hs⟩ := (writeStarved_iff r).mp h
    exact hmore.elim (· hk) (· hs)
  case spent => simp only [State.carryOut, State.positionError, hlost, hbudget, if_true]
  case left =>
    simp only [State.carryOut, State.positionError, hlost, if_neg hbudget, State.spendRetry_eq]
    simp

/-! The invariants at reset -/

theorem State.reset_spindle (p : Port) : State.reset.spindle p = Spindle.reset ⟨false, false, false⟩ := by
  simp [State.reset, State.spindle]

/-- Settles O53: at reset every list is empty, every spindle UNCONFIGURED, every record at its first value. -/
theorem invariantsAtReset : Obligations.InvariantsAtReset := by
  unfold Obligations.InvariantsAtReset
  have hcounts := State.counts_of_unconfigured (s := State.reset) fun p => congrArg Spindle.state (State.reset_spindle p)
  have hparams : State.reset.ParamsInRange := fun id => by cases id <;> rfl
  have hbudget : State.reset.BudgetKept := by simp [State.BudgetKept, hcounts]
  have hwait : State.reset.WaitListExact := 
    ⟨List.nodup_nil, fun p => by simp [State.reset_spindle, show State.reset.waitList = [] from rfl]⟩
  have htags : State.reset.TagsDistinct := List.nodup_nil
  have hengaged : State.reset.EngagementExact := ⟨htags, fun _ hr => absurd hr List.not_mem_nil, fun _ he => nomatch he⟩
  have htimers : State.reset.TimersSound := fun p => by simp [State.reset_spindle]
  refine ⟨hparams, hbudget, hwait, ⟨hwait, fun p => ?consistent⟩, ⟨hwait, fun p => ?flags⟩, ⟨hwait, fun _ p => ?presence⟩,
    fun p => ?arm, htimers, fun p => ?tracker, List.nodup_nil, ⟨htags, rfl, ?cutOff⟩, htags, hengaged,
    ⟨hwait, hengaged, htimers, ?ready⟩, ⟨hengaged, ?runs, ?engagedRun⟩, ⟨hparams, ?countsSound⟩, ⟨hengaged, ?holds⟩,
    ⟨rfl, rfl, ?restart⟩, ⟨?inbound, ?room, ?begun⟩, ⟨?replies, ?replyRoom, ?stop⟩, ⟨htags, ?dones⟩, ⟨List.nodup_nil, ?records⟩,
    ?notice, rfl⟩
  case consistent | flags | presence | arm | tracker =>
    simp [State.reset_spindle, Spindle.FieldsMatchState, Spindle.FlagsMatchState, Spindle.configured]
  case notice => simp [State.NoticeSound, State.reset]
  all_goals simp [State.reset, State.streamDones]

end Sys2Proof.Machine
end

section
/-! Spindle states (O18 to O22: R18 to R20, R22, R25, R30, R31, R41). A spindle that does not spin enters another state with nothing of
its record changed but the state, so that CONFIGURE, DECONFIGURE, CLEAR_FAULT and SPIN_UP each read off one equation. -/

-- One declaration after another: elaborated in parallel, these files ask for more memory than a check has.
set_option Elab.async false

namespace Sys2Proof.Machine

/-! R41: a change of a spindle's state -/

theorem Spindle.enter_tracker (r : Spindle) (st : SpindleState) :
    (r.enter st).tracker =
      if r.state.spinning = true ∧ st.spinning = false then ⟨false, 0, 0, none, none⟩ else r.tracker := by
  simp [Spindle.enter]

/-- Settles O18: `State.enterState_eq` with the record of `Spindle.enter`. -/
theorem stateChange : Obligations.StateChange := by
  unfold Obligations.StateChange
  intro s p st
  refine ⟨?_, ?_, fun q hq => State.enterState_spindle_of_ne s st hq⟩
  · rw [State.enterState_spindle_same]
    exact s.enterState_eq p st
  · rw [State.enterState_spindle_same, ← Spindle.enter_tracker]
    rfl

/-- R84: a spindle that is not READY holds its requests. -/
theorem State.enterState_unready {s : State} {p : Port} {st : SpindleState} (h : st ≠ .ready) :
    s.enterState p st = { s with
      spindles := (s.enterState p st).spindles
      waitList := if (s.spindle p).state = .spinWait ∧ st ≠ .spinWait then s.waitList.filter (· != p) else s.waitList
      table := s.table.map (Request.spindleEvaluated p true)
      events := stateChangePosted p st (if st = .faulted then (s.spindle p).cause else none) s.events } := by
  have hheld : (!(st == .ready && ((s.spindle p).enter st).tracker.tracked)) = true := by simp [h]
  rw [← hheld]
  exact s.enterState_eq p st

/-- R28, R31, R41: nothing of the record of a spindle that neither spins nor runs a spin timer changes but the state. -/
theorem Spindle.enter_resting {r : Spindle} (hrest : r.state.spinning = false) (hup : r.spinUpTimer = none)
    (hdown : r.spinDownTimer = none) (st : SpindleState) : r.enter st = { r with state := st } := by
  have hready : r.state ≠ .ready := fun h => by simp [h, SpindleState.spinning] at hrest
  simp [Spindle.enter, hrest, hup, hdown, hready]

/-- R28, R31: no spin timer runs for a spindle that does not spin. -/
theorem State.TimersSound.resting {s : State} {p : Port} (h : s.TimersSound) (hrest : (s.spindle p).state.spinning = false) :
    (s.spindle p).spinUpTimer = none ∧ (s.spindle p).spinDownTimer = none := by
  obtain ⟨hup, hdown, -⟩ := h p
  constructor
  · exact Option.not_isSome_iff_eq_none.mp fun ht => by simp [hup.mp ht, SpindleState.spinning] at hrest
  · exact Option.not_isSome_iff_eq_none.mp fun ht => by simp [hdown.mp ht, SpindleState.spinning] at hrest

/-- A change of one spindle's records followed by a change of its state, where it does not spin. -/
theorem State.modSpindle_enterState {s : State} {p : Port} {f : Spindle → Spindle} (htimers : s.TimersSound)
    (hrest : (s.spindle p).state.spinning = false) (hstate : (f (s.spindle p)).state = (s.spindle p).state)
    (hup : (f (s.spindle p)).spinUpTimer = (s.spindle p).spinUpTimer)
    (hdown : (f (s.spindle p)).spinDownTimer = (s.spindle p).spinDownTimer) (st : SpindleState) :
    ((s.modSpindle p f).enterState p st).spindle p = { f (s.spindle p) with state := st } ∧
    ∀ q : Port, q ≠ p → ((s.modSpindle p f).enterState p st).spindle q = s.spindle q := by
  obtain ⟨hnoUp, hnoDown⟩ := htimers.resting hrest
  refine ⟨?_, fun q hq => ?_⟩
  · rw [State.enterState_spindle_same, State.spindle_modSpindle_same,
      Spindle.enter_resting (hstate ▸ hrest) (hup.trans hnoUp) (hdown.trans hnoDown)]
  · rw [State.enterState_spindle_of_ne _ _ hq, State.spindle_modSpindle, if_neg hq.symm]

theorem State.modSpindle_enterState_eq (s : State) {p : Port} {f : Spindle → Spindle}
    (hstate : (f (s.spindle p)).state = (s.spindle p).state) {st : SpindleState} (hst : st ≠ .ready) :
    (s.modSpindle p f).enterState p st = { s with
      spindles := ((s.modSpindle p f).enterState p st).spindles
      waitList := if (s.spindle p).state = .spinWait ∧ st ≠ .spinWait then s.waitList.filter (· != p) else s.waitList
      table := s.table.map (Request.spindleEvaluated p true)
      events := stateChangePosted p st (if st = .faulted then (f (s.spindle p)).cause else none) s.events } := by
  have hframe := State.enterState_unready (s := s.modSpindle p f) (p := p) hst
  rw [State.spindle_modSpindle_same, hstate] at hframe
  exact hframe

/-! R30, R31: spinning down -/

/-- R30: a spindle enters SPINNING_DOWN with its timer started, whatever SPUN. -/
def State.beginSpinDown (s : State) (p : Port) : State :=
  (s.enterState p .spinningDown).modSpindle p fun r =>
    { r with spinDownTimer := some (s.now + secondsUs s.params.spindownTimeout) }

theorem State.enterSpinningDown_eq (s : State) (p : Port) :
    s.enterSpinningDown p = if (s.spindle p).lines.spun then s.beginSpinDown p else (s.beginSpinDown p).endSpinDown p := rfl

theorem State.beginSpinDown_eq (s : State) (p : Port) :
    s.beginSpinDown p = { s with
      spindles := (s.beginSpinDown p).spindles
      waitList := if (s.spindle p).state = .spinWait then s.waitList.filter (· != p) else s.waitList
      table := s.table.map (Request.spindleEvaluated p true)
      events := stateChangePosted p .spinningDown none s.events } := by
  have hframe := State.enterState_unready (s := s) (p := p) (st := .spinningDown) (by decide)
  simp only [ne_eq, reduceCtorEq, not_false_eq_true, and_true, if_false] at hframe
  rw [State.beginSpinDown, hframe]
  rfl

theorem State.beginSpinDown_spindle_same (s : State) (p : Port) :
    (s.beginSpinDown p).spindle p = { (s.spindle p).enter .spinningDown with
      spinDownTimer := some (s.now + s.params.spindownTimeout * 1000000) } := by
  rw [State.beginSpinDown, State.spindle_modSpindle_same, State.enterState_spindle_same]
  rfl

theorem State.beginSpinDown_spindle_of_ne (s : State) {p q : Port} (h : q ≠ p) : (s.beginSpinDown p).spindle q = s.spindle q := by
  rw [State.beginSpinDown, State.spindle_modSpindle, if_neg h.symm, State.enterState_spindle_of_ne s _ h]

/-- R84: SPINDLE evaluated to the same again changes nothing. -/
theorem Request.spindleEvaluated_idem (p : Port) (held : Bool) (r : Request) :
    (r.spindleEvaluated p held).spindleEvaluated p held = r.spindleEvaluated p held := by
  by_cases hp : r.spindle = p <;> by_cases hactive : r.status = .active <;>
    simp [Request.spindleEvaluated, Request.withHolds, hp, hactive]

theorem State.joinWait_eq (s : State) (p : Port) :
    s.joinWait p = { s with
      spindles := (s.joinWait p).spindles
      waitList := s.waitList ++ [p]
      table := s.table.map (Request.spindleEvaluated p true)
      events := stateChangePosted p .spinWait none s.events } := by
  have hframe := State.enterState_unready (s := s.setWaitList (s.waitList ++ [p])) (p := p) (st := .spinWait) (by decide)
  simp only [ne_eq, not_true, and_false, if_false, reduceCtorEq] at hframe
  exact hframe

theorem State.joinWait_spindle_same (s : State) (p : Port) : (s.joinWait p).spindle p = (s.spindle p).enter .spinWait := by
  rw [State.joinWait, State.enterState_spindle_same, State.setWaitList_spindle]

theorem State.joinWait_spindle_of_ne (s : State) {p q : Port} (h : q ≠ p) : (s.joinWait p).spindle q = s.spindle q := by
  rw [State.joinWait, State.enterState_spindle_of_ne _ _ h, State.setWaitList_spindle]

section
variable {s : State} {p : Port}

theorem State.endSpinDown_stays (hrespin : (s.spindle p).respin = false) : s.endSpinDown p = s.enterState p .parked := by
  simp [State.endSpinDown, hrespin]

theorem State.endSpinDown_rejoins (hrespin : (s.spindle p).respin = true) :
    s.endSpinDown p = ((s.enterState p .parked).modSpindle p fun r => { r with respin := false }).joinWait p := by
  simp [State.endSpinDown, hrespin]

/-- R31: the record of a spindle whose spin-down has ended. -/
theorem State.endSpinDown_spindle_same (h : (s.spindle p).state = .spinningDown) :
    (s.endSpinDown p).spindle p = { s.spindle p with
      state := if (s.spindle p).respin then .spinWait else .parked
      respin := false, spinUpTimer := none, spinDownTimer := none, tracker := ⟨false, 0, 0, none, none⟩ } := by
  cases hrespin : (s.spindle p).respin with
  | false =>
    rw [State.endSpinDown_stays hrespin, State.enterState_spindle_same]
    simp [Spindle.enter, h, hrespin, SpindleState.spinning]
  | true =>
    rw [State.endSpinDown_rejoins hrespin, State.joinWait_spindle_same, State.spindle_modSpindle_same,
      State.enterState_spindle_same]
    simp [Spindle.enter, h, SpindleState.spinning]

theorem State.endSpinDown_spindle_of_ne {q : Port} (hq : q ≠ p) : (s.endSpinDown p).spindle q = s.spindle q := by
  cases hrespin : (s.spindle p).respin with
  | false => rw [State.endSpinDown_stays hrespin, State.enterState_spindle_of_ne _ _ hq]
  | true =>
    rw [State.endSpinDown_rejoins hrespin, State.joinWait_spindle_of_ne _ hq, State.spindle_modSpindle, if_neg hq.symm,
      State.enterState_spindle_of_ne _ _ hq]

/-- R31: what the end of a spin-down changes beside the spindle's record. -/
theorem State.endSpinDown_eq (h : (s.spindle p).state = .spinningDown) :
    s.endSpinDown p = { s with
      spindles := (s.endSpinDown p).spindles
      waitList := if (s.spindle p).respin then s.waitList ++ [p] else s.waitList
      table := s.table.map (Request.spindleEvaluated p true)
      events :=
        if (s.spindle p).respin then stateChangePosted p .spinWait none (stateChangePosted p .parked none s.events)
        else stateChangePosted p .parked none s.events } := by
  have hparked := State.enterState_unready (s := s) (p := p) (st := .parked) (by decide)
  simp only [h, reduceCtorEq, false_and, if_false] at hparked
  cases hrespin : (s.spindle p).respin with
  | false =>
    rw [State.endSpinDown_stays hrespin]
    exact hparked
  | true =>
    have hjoined := State.joinWait_eq ((s.enterState p .parked).modSpindle p fun r => { r with respin := false }) p
    have htable : (s.enterState p .parked).table.map (Request.spindleEvaluated p true) =
        s.table.map (Request.spindleEvaluated p true) := by
      rw [hparked, List.map_map]
      exact List.map_congr_left fun r _ => r.spindleEvaluated_idem p true
    have hbase : (s.enterState p .parked).modSpindle p (fun r => { r with respin := false }) = { s with
        spindles := ((s.enterState p .parked).modSpindle p fun r => { r with respin := false }).spindles
        table := (s.enterState p .parked).table
        events := stateChangePosted p .parked none s.events } := by
      rw [hparked]
      rfl
    rw [State.endSpinDown_rejoins hrespin, hjoined]
    rw [hbase]
    simp only [htable, if_true]

end

/-- Settles O19: `State.beginSpinDown` begins the spin-down, and `State.endSpinDown_eq` ends it. -/
theorem spinDownBeginsAndEnds : Obligations.SpinDownBeginsAndEnds := by
  unfold Obligations.SpinDownBeginsAndEnds
  refine fun s p => ⟨fun hstate => ⟨s.beginSpinDown p, ?frame, ?record, fun q => s.beginSpinDown_spindle_of_ne,
    fun hspun => by rw [State.enterSpinningDown_eq, if_pos hspun], fun hspun => ?ended⟩,
    fun h => ⟨State.endSpinDown_spindle_same h, fun q => State.endSpinDown_spindle_of_ne, State.endSpinDown_eq h⟩⟩
  case frame =>
    have hwait : (s.spindle p).state ≠ .spinWait := by rcases hstate with h | h <;> simp [h]
    have hframe := s.beginSpinDown_eq p
    rw [if_neg hwait] at hframe
    exact hframe
  case record =>
    rw [State.beginSpinDown_spindle_same]
    rcases hstate with h | h <;> simp [Spindle.enter, h, SpindleState.spinning]
  case ended => rw [State.enterSpinningDown_eq, hspun, if_neg Bool.false_ne_true]

/-! R18 to R20, R22: the UNITCTL actions -/

/-- R17: an action refused for the spindle it names. -/
theorem judgeUnit_refused {n : Byte} {p : Port} (hp : n.toNat = p.val) {act : Port → State → Judged} {s : State} {code : Code}
    (h : act p s = refuse code s) : judgeUnit n act s = refuse code s := (judgeUnit_port hp act s).trans h

theorem Geometry.legal_iff (c h k : Nat) :
    Geometry.legal ⟨c, h, k⟩ = true ↔ 1 ≤ c ∧ c ≤ 4096 ∧ 1 ≤ h ∧ h ≤ 16 ∧ 4 ≤ k ∧ k ≤ 64 := by
  simp [Geometry.legal, and_assoc]

section
variable {s : State} {p : Port}

theorem judgeConfigure_accept {g : Geometry} (hg : g.legal = true) (hidle : s.requestCount p = 0)
    (h : (s.spindle p).state = .unconfigured ∨ (s.spindle p).state = .absent ∨ (s.spindle p).state = .parked) :
    judgeConfigure g p s = accept (s.configure p g) := by
  rcases h with h | h | h <;> simp [judgeConfigure, hg, hidle, h]

theorem judgeConfigure_wrongState {g : Geometry} (hg : g.legal = true) (hidle : s.requestCount p = 0)
    (h : ¬ ((s.spindle p).state = .unconfigured ∨ (s.spindle p).state = .absent ∨ (s.spindle p).state = .parked)) :
    judgeConfigure g p s = refuse .wrongState s := by
  cases hst : (s.spindle p).state <;> simp [hst] at h <;> simp [judgeConfigure, hg, hidle, hst]

/-- R18: a CONFIGURE accepted, as one change of the spindle's records; its state change is posted when there is one. -/
theorem State.configure_changes (g : Geometry) (hidle : s.requestCount p = 0) (htimers : s.TimersSound)
    (h : (s.spindle p).state = .unconfigured ∨ (s.spindle p).state = .absent ∨ (s.spindle p).state = .parked) :
    s.configure p g = { s with
      spindles := (s.configure p g).spindles
      events := if (s.spindle p).state = (s.spindle p).restState then s.events
        else stateChangePosted p (s.spindle p).restState none s.events } ∧
    (s.configure p g).spindle p = { s.spindle p with state := (s.spindle p).restState, geometry := some g } ∧
    ∀ q : Port, q ≠ p → (s.configure p g).spindle q = s.spindle q := by
  have hrest : (s.spindle p).state.spinning = false := by rcases h with h | h | h <;> simp [h, SpindleState.spinning]
  have hwait : (s.spindle p).state ≠ .spinWait := by rcases h with h | h | h <;> simp [h]
  have hconfigure : s.configure p g =
      if (s.spindle p).state = (s.spindle p).restState then s.modSpindle p fun r => { r with geometry := some g }
      else (s.modSpindle p fun r => { r with geometry := some g }).enterState p (s.spindle p).restState := by
    simp only [State.configure, State.spindle_modSpindle_same]
    rfl
  have hstates : (s.spindle p).restState ≠ .ready ∧ (s.spindle p).restState ≠ .faulted := by
    unfold Spindle.restState
    split <;> decide
  by_cases hsame : (s.spindle p).state = (s.spindle p).restState
  · simp only [hconfigure, if_pos hsame]
    obtain ⟨hframe, hrecord, hother⟩ := s.modSpindle_changes p fun r => { r with geometry := some g }
    exact ⟨hframe, by rw [hrecord, ← hsame], hother⟩
  · simp only [hconfigure, if_neg hsame]
    refine ⟨?_, State.modSpindle_enterState htimers hrest rfl rfl rfl _⟩
    have hframe := s.modSpindle_enterState_eq (p := p) (f := fun r => { r with geometry := some g }) rfl hstates.1
    rwa [State.map_spindleEvaluated_idle hidle, if_neg (fun h => hwait h.1), if_neg hstates.2] at hframe

end

/-- Settles O20: the refusals of the judgement in their order, and `State.configure_changes`. -/
theorem configure : Obligations.Configure := by
  unfold Obligations.Configure
  intro s seq n c h k hcan
  have refused {code : Code}
      (hj : judgeUnit n (judgeConfigure ⟨c.toNat, h.toNat, k.toNat⟩) s.popInbound = refuse code s.popInbound) :
      Refused (.configure seq n c h k) s 0x04 seq code := handle_refuse _ _ _ _ _ _ hcan hj
  refine ⟨fun hn => refused (judgeUnit_badField hn _ _), fun p hp => ⟨fun hillegal => ?illegal, fun hlegal => ⟨fun hbusy => ?busy,
    fun hidle hstate => ?wrongState, fun hidle htimers hstate => ?accepted⟩⟩⟩
  case illegal =>
    have hg := Bool.eq_false_iff.mpr (mt (Geometry.legal_iff ..).mp hillegal)
    exact refused (judgeUnit_refused hp (by simp [judgeConfigure, hg]))
  all_goals have hg := (Geometry.legal_iff ..).mpr hlegal
  case busy => exact refused (judgeUnit_refused hp (by simp [judgeConfigure, hg, hbusy]))
  case wrongState =>
    exact refused (judgeUnit_refused hp (judgeConfigure_wrongState hg (by simpa using hidle) (by simpa using hstate)))
  case accepted =>
    have hidle' : s.popInbound.requestCount p = 0 := by simpa using hidle
    have hstate' := hstate
    rw [← s.popInbound_spindle p] at hstate' ⊢
    have hj := (judgeUnit_port hp _ _).trans (judgeConfigure_accept hg hidle' hstate')
    exact ⟨_, _, handle_accept _ _ _ _ _ _ hcan hj, rfl, State.configure_changes _ hidle' htimers hstate'⟩

section
variable {s : State} {p : Port}

theorem judgeDeconfigure_accept (hidle : s.requestCount p = 0)
    (h : (s.spindle p).state = .parked ∨ (s.spindle p).state = .absent ∨ (s.spindle p).state = .faulted) :
    judgeDeconfigure p s = accept (s.deconfigure p) := by
  rcases h with h | h | h <;> simp [judgeDeconfigure, hidle, h]

theorem judgeDeconfigure_wrongState (hidle : s.requestCount p = 0)
    (h : ¬ ((s.spindle p).state = .parked ∨ (s.spindle p).state = .absent ∨ (s.spindle p).state = .faulted)) :
    judgeDeconfigure p s = refuse .wrongState s := by
  cases hst : (s.spindle p).state <;> simp [hst] at h <;> simp [judgeDeconfigure, hidle, hst]

/-- R19: a DECONFIGURE accepted. -/
theorem State.deconfigure_changes (hidle : s.requestCount p = 0) (htimers : s.TimersSound)
    (h : (s.spindle p).state = .parked ∨ (s.spindle p).state = .absent ∨ (s.spindle p).state = .faulted) :
    s.deconfigure p = { s with
      spindles := (s.deconfigure p).spindles
      activity := s.activity.filter (· != p)
      events := stateChangePosted p .unconfigured none s.events } ∧
    (s.deconfigure p).spindle p = { s.spindle p with state := .unconfigured, geometry := none, cause := none } ∧
    ∀ q : Port, q ≠ p → (s.deconfigure p).spindle q = s.spindle q := by
  have hrest : (s.spindle p).state.spinning = false := by rcases h with h | h | h <;> simp [h, SpindleState.spinning]
  have hwait : (s.spindle p).state ≠ .spinWait := by rcases h with h | h | h <;> simp [h]
  obtain ⟨u, hu⟩ : ∃ u, u = s.setActivity (s.activity.filter (· != p)) := ⟨_, rfl⟩
  have hspindle (q : Port) : u.spindle q = s.spindle q := by rw [hu, State.setActivity_spindle]
  have hdeconfigure : s.deconfigure p =
      (u.modSpindle p fun r => { r with geometry := none, cause := none }).enterState p .unconfigured := by rw [hu]; rfl
  have hidle' : u.requestCount p = 0 := by rw [hu]; exact hidle
  have htimers' : u.TimersSound := by rw [hu]; exact htimers
  have hframe := u.modSpindle_enterState_eq (p := p)
    (f := fun r => { r with geometry := none, cause := none }) rfl (st := .unconfigured) (by decide)
  have hrecords := State.modSpindle_enterState (s := u) (p := p) (f := fun r => { r with geometry := none, cause := none })
    htimers' (by rw [hspindle, hrest]) rfl rfl rfl .unconfigured
  rw [State.map_spindleEvaluated_idle hidle', hspindle, if_neg (fun h => hwait h.1), if_neg (by decide), ← hdeconfigure] at hframe
  simp only [hspindle, ← hdeconfigure] at hrecords
  refine ⟨?_, hrecords⟩
  rw [hframe, hu]
  rfl

/-- R22: a CLEAR_FAULT accepted. -/
theorem State.clearFault_changes (htimers : s.TimersSound) (h : (s.spindle p).state = .faulted) :
    s.clearFault p = { s with
      spindles := (s.clearFault p).spindles
      table := s.table.map (Request.spindleEvaluated p true)
      events := stateChangePosted p (s.spindle p).restState none s.events } ∧
    (s.clearFault p).spindle p = { s.spindle p with state := (s.spindle p).restState, cause := none } ∧
    ∀ q : Port, q ≠ p → (s.clearFault p).spindle q = s.spindle q := by
  have hstates : (s.spindle p).restState ≠ .ready ∧ (s.spindle p).restState ≠ .faulted := by
    unfold Spindle.restState
    split <;> decide
  have hclear : s.clearFault p =
      (s.modSpindle p fun r => { r with cause := none }).enterState p (s.spindle p).restState := by
    simp only [State.clearFault, State.spindle_modSpindle_same]
    rfl
  have hframe := s.modSpindle_enterState_eq (p := p) (f := fun r => { r with cause := none }) rfl hstates.1
  rw [if_neg (by simp [h]), if_neg hstates.2] at hframe
  simp only [hclear]
  exact ⟨hframe, State.modSpindle_enterState htimers (by simp [h, SpindleState.spinning]) rfl rfl rfl _⟩

end

/-- Settles O21: the refusals of the two judgements, and the equations of the two effects. -/
theorem deconfigureAndClearFault : Obligations.DeconfigureAndClearFault := by
  unfold Obligations.DeconfigureAndClearFault
  refine fun s seq n => ⟨fun hn => ⟨fun hcan => handle_refuse _ _ _ _ _ _ hcan (judgeUnit_badField hn _ _),
    fun hcan => handle_refuse _ _ _ _ _ _ hcan (judgeUnit_badField hn _ _)⟩, fun p hp => ⟨fun hcan => ⟨fun hbusy => ?busy,
    fun hidle hstate => ?wrongState, fun hidle htimers hstate => ?deconfigured⟩, fun hcan => ⟨fun hstate => ?notFaulted,
    fun hstate htimers => ?cleared⟩⟩⟩
  case busy =>
    exact handle_refuse _ _ _ _ _ _ hcan (judgeUnit_refused hp (by simp [judgeDeconfigure, hbusy]))
  case wrongState =>
    exact handle_refuse _ _ _ _ _ _ hcan
      (judgeUnit_refused hp (judgeDeconfigure_wrongState (by simpa using hidle) (by simpa using hstate)))
  case deconfigured =>
    have hidle' : s.popInbound.requestCount p = 0 := by simpa using hidle
    rw [← s.popInbound_spindle p] at hstate ⊢
    have hj := (judgeUnit_port hp _ _).trans (judgeDeconfigure_accept hidle' hstate)
    exact ⟨_, handle_accept _ _ _ _ _ _ hcan hj, State.deconfigure_changes hidle' htimers hstate⟩
  case notFaulted =>
    refine handle_refuse _ _ _ _ _ _ hcan (judgeUnit_refused hp ?_)
    have hother : (s.popInbound.spindle p).state ≠ .faulted := by simpa using hstate
    unfold judgeClearFault
    split
    · exact absurd ‹_› hother
    · rfl
  case cleared =>
    rw [← s.popInbound_spindle p] at hstate ⊢
    have hj : judgeUnit n judgeClearFault s.popInbound = accept (s.popInbound.clearFault p) :=
      (judgeUnit_port hp _ _).trans (by simp only [judgeClearFault, hstate])
    exact ⟨_, _, handle_accept _ _ _ _ _ _ hcan hj, rfl, State.clearFault_changes htimers hstate⟩

section
variable {s : State} {p : Port}

/-- R20: pinned set, and what a READY or a SPINNING_DOWN spindle has changed with it, as one change of the records. -/
theorem judgeSpinUp_flags
    (h : (s.spindle p).state = .spinWait ∨ (s.spindle p).state = .spinningUp ∨ (s.spindle p).state = .ready ∨
      (s.spindle p).state = .spinningDown) :
    judgeSpinUp p s = accept (s.modSpindle p fun r =>
      { r with
        pinned := true
        idleTimer := if r.state = .ready then none else r.idleTimer
        respin := if r.state = .spinningDown then true else r.respin }) := by
  rcases h with h | h | h | h <;> simp only [judgeSpinUp, h, State.pin, State.modSpindle_modSpindle] <;>
    exact congrArg accept (State.modSpindle_congr (by simp [h]))

/-- R20, R25: a PARKED spindle is pinned and joins the wait list. -/
theorem State.pin_joinWait (hparked : (s.spindle p).state = .parked) (htimers : s.TimersSound) :
    (s.pin p).joinWait p = { s with
      spindles := ((s.pin p).joinWait p).spindles
      waitList := s.waitList ++ [p]
      table := s.table.map (Request.spindleEvaluated p true)
      events := stateChangePosted p .spinWait none s.events } ∧
    ((s.pin p).joinWait p).spindle p = { s.spindle p with state := .spinWait, pinned := true } ∧
    ∀ q : Port, q ≠ p → ((s.pin p).joinWait p).spindle q = s.spindle q :=
  ⟨(s.pin p).joinWait_eq p, State.modSpindle_enterState (s := s.setWaitList (s.waitList ++ [p])) (f := fun r => { r with pinned := true })
    htimers (by simp [hparked, SpindleState.spinning]) rfl rfl rfl .spinWait⟩

end

/-- Settles O22: the judgement by the state it finds. -/
theorem spinUp : Obligations.SpinUp := by
  unfold Obligations.SpinUp
  intro s seq n hcan
  refine ⟨fun hn => handle_refuse _ _ _ _ _ _ hcan (judgeUnit_badField hn _ _), fun p hp => ?_⟩
  have refused {code : Code} (hj : judgeSpinUp p s.popInbound = refuse code s.popInbound) :
      Refused (.spinUp seq n) s 0x04 seq code := handle_refuse _ _ _ _ _ _ hcan ((judgeUnit_port hp _ _).trans hj)
  have accepted {v : State} (hj : judgeSpinUp p s.popInbound = accept v) :
      Accepted (.spinUp seq n) s 0x04 seq v := handle_accept _ _ _ _ _ _ hcan ((judgeUnit_port hp _ _).trans hj)
  rw [← s.popInbound_spindle p]
  refine ⟨fun h => refused (by simp only [judgeSpinUp, h]), fun h => refused (by simp only [judgeSpinUp, h]),
    fun h => refused (by simp only [judgeSpinUp, h]), fun hparked htimers => ?parked, fun h => ?flags⟩
  case parked => exact ⟨_, accepted (by simp only [judgeSpinUp, hparked]), State.pin_joinWait hparked htimers⟩
  case flags => exact ⟨_, accepted (judgeSpinUp_flags h), State.modSpindle_changes _ _ _⟩

end Sys2Proof.Machine
end

section
/-! The events of the port lines and of the timers (O25 to O27: R14, R28, R31, R34, R36, R37, R40, R41, R89), and SETP (O14: R178).
Most of what they leave unchanged, they leave so because the end of the event takes no cause in them: `finish_calm`. -/

-- One declaration after another: elaborated in parallel, these files ask for more memory than a check has.
set_option Elab.async false

namespace Sys2Proof.Machine

/-- Two states between which no cause has come about, whatever levels, error counts or marks of the slot have changed. -/
structure Calm (s t : State) : Prop where
  state : ∀ p, (t.spindle p).state = (s.spindle p).state
  arm : ∀ p, (t.spindle p).arm = (s.spindle p).arm
  tracked : ∀ p, (t.spindle p).tracker.tracked = (s.spindle p).tracker.tracked
  table : t.table = s.table
  waitList : t.waitList = s.waitList
  chan : t.chan.isSome = s.chan.isSome
  stopRequest : t.stopRequest = s.stopRequest
  choiceHold : t.choiceHold = s.choiceHold
  spinLimit : t.params.spinLimit = s.params.spinLimit
  surgeLimit : t.params.surgeLimit = s.params.surgeLimit

section
variable {s t : State} (h : Calm s t)
include h

theorem Calm.chan_none : t.chan = none ↔ s.chan = none := by
  rw [← Option.not_isSome_iff_eq_none, ← Option.not_isSome_iff_eq_none, h.chan]

theorem Calm.no_stopCause : ¬ StopCause s t := by
  rw [StopCause, h.stopRequest, h.chan_none]
  exact fun ⟨hstop, hchan, hnot⟩ => hnot ⟨hstop, hchan⟩

theorem Calm.no_budgetCause : ¬ BudgetCause s t := by
  simp only [BudgetCause, h.waitList, h.state, h.arm, State.requestCount_congr h.table, h.spinLimit, h.surgeLimit, Nat.lt_irrefl,
    ne_eq, not_true, or_false, not_exists, not_or]
  refine fun p => ⟨fun hw => hw.2 hw.1, fun hs => hs.2 hs.1, fun hs => by simp [hs.1] at hs, fun hs => hs.1 hs.2, ?_,
    fun hc => hc.2.1 hc.2.2⟩
  rintro ⟨htimer, c, hc⟩
  exact htimer (by rw [hc]; rfl)

theorem Calm.no_scheduleCause : ¬ ScheduleCause s t := by
  simp only [ScheduleCause, h.table, h.state, h.arm, h.tracked, h.chan_none, h.choiceHold, ne_eq, not_true, iff_self,
    false_or, false_and, exists_false]
  rintro (⟨r, hr, hover, hnone⟩ | ⟨r, hr, hnone⟩ | ⟨hsome, hnone⟩ | ⟨hheld, hclear⟩)
  · exact Bool.false_ne_true ((hnone r hr rfl).symm.trans hover)
  · exact hnone r hr rfl
  · exact hsome hnone
  · exact Bool.false_ne_true (hclear.symm.trans hheld)

/-- After an event without a cause nothing is due. -/
theorem finish_calm : finish s t = t := by
  simp [finish, mt stopDone_iff.mp h.no_stopCause, mt budgetDue_iff.mp h.no_budgetCause,
    mt scheduleDue_iff.mp h.no_scheduleCause]

/-- An event without a cause, which leaves the line and its sources alone, is its effect. -/
theorem settle_calm (hl : t.line = s.line) (hr : t.replies = s.replies) (hn : t.notice = s.notice)
    (he : t.events = s.events) (hs : t.stream = s.stream) : settle s t = t := by
  rw [settle, finish_calm h, serve_quiet hl hr hn he hs]

end

theorem Calm.refl (s : State) : Calm s s := ⟨fun _ => rfl, fun _ => rfl, fun _ => rfl, rfl, rfl, rfl, rfl, rfl, rfl, rfl⟩

/-- A change of one spindle's records that leaves its state, its arm and its tracked flag. -/
theorem Calm.modSpindle (s : State) (p : Port) (f : Spindle → Spindle) (hstate : (f (s.spindle p)).state = (s.spindle p).state)
    (harm : (f (s.spindle p)).arm = (s.spindle p).arm)
    (htracked : (f (s.spindle p)).tracker.tracked = (s.spindle p).tracker.tracked) : Calm s (s.modSpindle p f) where
  state q := by rw [State.spindle_modSpindle]; split <;> simp_all
  arm q := by rw [State.spindle_modSpindle]; split <;> simp_all
  tracked q := by rw [State.spindle_modSpindle]; split <;> simp_all
  table := rfl
  waitList := rfl
  chan := rfl
  stopRequest := rfl
  choiceHold := rfl
  spinLimit := rfl
  surgeLimit := rfl

/-! R14: the levels -/

/-- The levels on a port's lines changed. -/
def State.setLines (s : State) (p : Port) (l : Lines) : State := s.modSpindle p fun r => { r with lines := l }

theorem State.setPres_eq (s : State) (p : Port) (b : Bool) : s.setPres p b = s.setLines p { (s.spindle p).lines with pres := b } := rfl

theorem State.setSpun_eq (s : State) (p : Port) (b : Bool) : s.setSpun p b = s.setLines p { (s.spindle p).lines with spun := b } := rfl

theorem State.setWpr_eq (s : State) (p : Port) (b : Bool) : s.setWpr p b = s.setLines p { (s.spindle p).lines with wpr := b } := rfl

theorem State.setLines_changes (s : State) (p : Port) (l : Lines) :
    s.setLines p l = { s with spindles := (s.setLines p l).spindles } ∧
    (s.setLines p l).spindle p = { s.spindle p with lines := l } ∧ ∀ q : Port, q ≠ p → (s.setLines p l).spindle q = s.spindle q :=
  s.modSpindle_changes p _

@[simp] theorem State.setLines_spindle_same (s : State) (p : Port) (l : Lines) :
    (s.setLines p l).spindle p = { s.spindle p with lines := l } := (s.setLines_changes p l).2.1

theorem Calm.setLines (s : State) (p : Port) (l : Lines) : Calm s (s.setLines p l) := Calm.modSpindle s p _ rfl rfl rfl

theorem settle_setLines (s : State) (p : Port) (l : Lines) : settle s (s.setLines p l) = s.setLines p l :=
  settle_calm (Calm.setLines s p l) rfl rfl rfl rfl rfl

section
variable {s : State} {level effect : State → State}

theorem lineChange_taken (hrun : s.inReset = false) : lineChange true level effect s = .next (settle s (effect (level s))) := by
  simp [lineChange, hrun]

theorem lineChange_stands : lineChange false level effect s = .next s := rfl

end

/-- An event that only posts: nothing is due, and the arbiter serves. -/
theorem settle_posts {s u : State} (h : Calm s u) (events : List EventRecord) :
    settle s (u.setEvents events) = serve s (u.setEvents events) :=
  congrArg (serve s) (finish_calm
    (t := u.setEvents events) ⟨h.state, h.arm, h.tracked, h.table, h.waitList, h.chan, h.stopRequest, h.choiceHold, h.spinLimit,
      h.surgeLimit⟩)

/-- R14, R41: a post for a configured spindle, as the Event Queue after it. -/
theorem State.postConfigured_eq (s : State) (p : Port) (kind : EventSet) :
    s.postConfigured p kind = s.setEvents (if (s.spindle p).state = .unconfigured then s.events
      else postInto p kind (s.spindle p).state (if (s.spindle p).state = .faulted then (s.spindle p).cause else none) s.events) := by
  by_cases hst : (s.spindle p).state = .unconfigured
  · simp [State.postConfigured, Spindle.configured, hst]
    rfl
  · simp [State.postConfigured, Spindle.configured, hst]
    rfl

/-! The arms of these events -/

section
variable (s : State) (p : Port)

theorem exec_ufltRising : exec (.ufltRising p) s = event s fun u => u.unitFault p := rfl

theorem exec_atnRising : exec (.atnRising p) s = event s fun u => u.postConfigured p eventAttention := rfl

theorem exec_spinUpTimerExpiry : exec (.spinUpTimerExpiry p) s = event s fun u => u.spinUpTimeout p := rfl

theorem exec_spinDownTimerExpiry : exec (.spinDownTimerExpiry p) s = event s fun u => u.spinDownTimeout p := rfl

theorem exec_idleTimerExpiry : exec (.idleTimerExpiry p) s = event s fun u => u.idleTimeout p := rfl

theorem exec_ageTimerExpiry (t : Tag) : exec (.ageTimerExpiry t) s = event s fun u => u.ageTimeout t := rfl

theorem exec_presFalling :
    exec (.presFalling p) s = lineChange (s.spindle p).lines.pres (fun u => u.setPres p false) (fun u => u.presFall p) s := rfl

theorem exec_presRising :
    exec (.presRising p) s = lineChange (!(s.spindle p).lines.pres) (fun u => u.setPres p true) (fun u => u.presRise p) s := rfl

theorem exec_spunChange (level : Bool) : exec (.spunChange p level) s =
    lineChange ((s.spindle p).lines.spun != level) (fun u => u.setSpun p level) (fun u => u.spunChange p level) s := rfl

theorem exec_wprLevelChange (level : Bool) : exec (.wprLevelChange p level) s =
    lineChange ((s.spindle p).lines.wpr != level) (fun u => u.setWpr p level) (fun u => u.postConfigured p eventWprChange) s := rfl

end

section
variable {s : State} {p : Port}

theorem presFalling_taken (hrun : s.inReset = false) (h : (s.spindle p).lines.pres = true) :
    exec (.presFalling p) s = .next (settle s ((s.setLines p { (s.spindle p).lines with pres := false }).presFall p)) := by
  rw [exec_presFalling, h, lineChange_taken hrun, State.setPres_eq]

theorem presRising_taken (hrun : s.inReset = false) (h : (s.spindle p).lines.pres = false) :
    exec (.presRising p) s = .next (settle s ((s.setLines p { (s.spindle p).lines with pres := true }).presRise p)) := by
  rw [exec_presRising, h, Bool.not_false, lineChange_taken hrun, State.setPres_eq]

theorem spunChange_taken {level : Bool} (hrun : s.inReset = false) (h : (s.spindle p).lines.spun ≠ level) :
    exec (.spunChange p level) s =
      .next (settle s ((s.setLines p { (s.spindle p).lines with spun := level }).spunChange p level)) := by
  rw [exec_spunChange, bne_iff_ne.mpr h, lineChange_taken hrun, State.setSpun_eq]

theorem wprLevelChange_taken {level : Bool} (hrun : s.inReset = false) (h : (s.spindle p).lines.wpr ≠ level) :
    exec (.wprLevelChange p level) s =
      .next (settle s ((s.setLines p { (s.spindle p).lines with wpr := level }).postConfigured p eventWprChange)) := by
  rw [exec_wprLevelChange, bne_iff_ne.mpr h, lineChange_taken hrun, State.setWpr_eq]

theorem State.spinUpTimeout_stands (h : (s.spindle p).state ≠ .spinningUp ∨ (s.spindle p).spinUpTimer = none) :
    s.spinUpTimeout p = s := by
  unfold State.spinUpTimeout
  split
  · next d hst ht => simp [hst, ht] at h
  · rfl

theorem State.spinDownTimeout_stands (h : (s.spindle p).state ≠ .spinningDown ∨ (s.spindle p).spinDownTimer = none) :
    s.spinDownTimeout p = s := by
  unfold State.spinDownTimeout
  split
  · next d hst ht => simp [hst, ht] at h
  · rfl

theorem State.idleTimeout_stands (h : (s.spindle p).state ≠ .ready ∨ (s.spindle p).idleTimer = none) : s.idleTimeout p = s := by
  unfold State.idleTimeout
  split
  · next d hst ht => simp [hst, ht] at h
  · rfl

end

/-- Settles O25: each event's arm by the state it finds. -/
theorem faultEvents : Obligations.FaultEvents := by
  unfold Obligations.FaultEvents
  refine fun s p hrun => ⟨fun h => ?unitFault, fun h => ?noUnitFault, fun hready hspun => ?speedLost, fun d hst ht => ?spinUp,
    fun h => ?noSpinUp, fun d hst ht => ?spinDown, fun h => ?noSpinDown⟩
  case unitFault =>
    have heffect : s.unitFault p = s.enterFaulted p .unitFault := by
      rcases h with h | h | h | h | h <;> simp only [State.unitFault, h]
    rw [Taken, exec_ufltRising, event_running _ _ hrun, heffect]
  case noUnitFault =>
    rw [exec_ufltRising, event_none]
    rcases h with h | h | h <;> simp only [State.unitFault, h]
  case speedLost =>
    refine ⟨s.setLines p { (s.spindle p).lines with spun := false }, ?_, s.setLines_changes p _⟩
    rw [Taken, spunChange_taken hrun (by simp [hspun])]
    simp [State.spunChange, hready]
  case spinUp =>
    rw [Taken, exec_spinUpTimerExpiry, event_running _ _ hrun]
    simp only [State.spinUpTimeout, hst, ht, State.clockTo]
  case noSpinUp => rw [exec_spinUpTimerExpiry, event_none _ _ (State.spinUpTimeout_stands h)]
  case spinDown =>
    rw [Taken, exec_spinDownTimerExpiry, event_running _ _ hrun]
    simp only [State.spinDownTimeout, hst, ht, State.clockTo]
  case noSpinDown => rw [exec_spinDownTimerExpiry, event_none _ _ (State.spinDownTimeout_stands h)]

/-- Settles O26: each change of a level by the state it finds. -/
theorem lineChanges : Obligations.LineChanges := by
  unfold Obligations.LineChanges
  refine fun s p hrun => ⟨s.setLines p, s.setLines_changes p, fun hpres hconfigured habsent => ?fall, fun hpres h => ?fallIgnored,
    fun hpres habsent => ?rise, fun hpres h => ?riseIgnored, fun hspun hstop => ?stopped, fun hspun hstop hready => ?spunIgnored,
    fun hspun => ?spunRise, fun level hwpr => ?wpr, fun h => ?noFall, fun h => ?noRise, fun level h => ?noSpun,
    fun level h => ?noWpr, ?attention⟩
  case fall =>
    refine (presFalling_taken hrun hpres).trans (congrArg (fun u => Host.Outcome.next (settle s u)) ?_)
    unfold State.presFall
    split <;> simp_all
  case fallIgnored =>
    rw [presFalling_taken hrun hpres]
    rcases h with h | h <;> simp only [State.presFall, State.setLines_spindle_same, h, settle_setLines]
  case rise =>
    refine (presRising_taken hrun hpres).trans (congrArg (fun u => Host.Outcome.next (settle s u)) ?_)
    simp only [State.presRise, State.setLines_spindle_same, habsent]
  case riseIgnored =>
    have heffect (u : State) (hu : (u.spindle p).state ≠ .absent) : u.presRise p = u := by
      unfold State.presRise
      split <;> simp_all
    rw [presRising_taken hrun hpres, heffect _ (by simpa using h), settle_setLines]
  case stopped =>
    refine (spunChange_taken hrun (by simp [hspun])).trans (congrArg (fun u => Host.Outcome.next (settle s u)) ?_)
    simp [State.spunChange, hstop]
  case spunIgnored =>
    have heffect (u : State) (hr : (u.spindle p).state ≠ .ready) (hd : (u.spindle p).state ≠ .spinningDown) :
        u.spunChange p false = u := by
      unfold State.spunChange
      split
      · rfl
      · split <;> simp_all
    rw [spunChange_taken hrun (by simp [hspun]), heffect _ (by simpa using hready) (by simpa using hstop), settle_setLines]
  case spunRise =>
    rw [spunChange_taken hrun (by simp [hspun])]
    exact congrArg _ (settle_setLines s p _)
  case wpr =>
    rw [wprLevelChange_taken hrun hwpr, State.postConfigured_eq, settle_posts (Calm.setLines s p _), State.setLines_spindle_same]
    rfl
  case attention =>
    rw [exec_atnRising, event_running _ _ hrun, State.postConfigured_eq, settle_posts (Calm.refl s)]
    rfl
  case noFall => rw [exec_presFalling, h, lineChange_stands]
  case noRise => rw [exec_presRising, h, Bool.not_true, lineChange_stands]
  case noSpun => rw [exec_spunChange, h, bne_self_eq_false, lineChange_stands]
  case noWpr => rw [exec_wprLevelChange, h, bne_self_eq_false, lineChange_stands]

/-- Settles O27: an expiry is taken at its deadline while the timer runs. -/
theorem timerExpiries : Obligations.TimerExpiries := by
  unfold Obligations.TimerExpiries
  refine fun s hrun => ⟨fun p d hst ht => ?idle, fun p h => ?noIdle, fun t r d hr ht => ?age, fun t h => ?noAge⟩
  case idle =>
    rw [Taken, exec_idleTimerExpiry, event_running _ _ hrun]
    simp only [State.idleTimeout, hst, ht, State.clockTo]
  case noIdle => rw [exec_idleTimerExpiry, event_none _ _ (State.idleTimeout_stands h)]
  case age =>
    have htimer : (s.request t).bind (·.ageTimer) = some d := by rw [hr]; exact ht
    have heffect : s.ageTimeout t = (s.clockTo d).modRequest t Request.age := by rw [State.ageTimeout, htimer]
    rw [Taken, exec_ageTimerExpiry, event_running _ _ hrun, heffect]
    rfl
  case noAge =>
    have htimer : (s.request t).bind (·.ageTimer) = none := Option.bind_eq_none_iff.mpr h
    rw [exec_ageTimerExpiry, event_none _ _ (by rw [State.ageTimeout, htimer])]

/-! R178: SETP -/

theorem Params.get_put (p : Params) (v : Nat) (id other : ParamId) :
    (p.put v id).get other = if other = id then v else p.get other := by
  cases id <;> cases other <;> rfl

theorem exec_setpInstr (id : ParamId) (seq : Byte) (value : Word) (s : State) :
    exec (setpInstr id seq value) s = handle (setpInstr id seq value) 0x05 seq (judgeSetp id value) s := by
  cases id <;> rfl

theorem State.applyParam_params (s : State) (id : ParamId) (v : Nat) : (s.applyParam id v).params = s.params.put v id := by
  unfold State.applyParam
  split <;> simp

theorem State.applyParam_stores {id : ParamId} (hage : id ≠ .ageLimit) (hfault : id ≠ .trackFaultLimit) (s : State) (v : Nat) :
    s.applyParam id v = s.putParam id v := by
  unfold State.applyParam
  split <;> simp_all

/-- R42: of the parameters stored, the limits of the spin budget alone start the Spindle Manager's evaluations. -/
theorem Calm.applyParam {id : ParamId} (hspin : id ≠ .spinLimit) (hsurge : id ≠ .surgeLimit) (hage : id ≠ .ageLimit) (s : State)
    (v : Nat) : Calm s (s.applyParam id v) := by
  have hspinLimit : (s.applyParam id v).params.spinLimit = s.params.spinLimit := by
    rw [State.applyParam_params]
    exact (Params.get_put _ _ _ .spinLimit).trans (if_neg hspin.symm)
  have hsurgeLimit : (s.applyParam id v).params.surgeLimit = s.params.surgeLimit := by
    rw [State.applyParam_params]
    exact (Params.get_put _ _ _ .surgeLimit).trans (if_neg hsurge.symm)
  by_cases hfault : id = .trackFaultLimit
  · subst hfault
    refine ⟨fun p => ?_, fun p => ?_, fun p => ?_, ?_, ?_, ?_, ?_, ?_, hspinLimit, hsurgeLimit⟩
    iterate 3 rw [State.applyTrackFaultLimit_spindle]
    all_goals simp [State.applyParam]
  · rw [State.applyParam_stores hage hfault] at hspinLimit hsurgeLimit ⊢
    exact ⟨fun _ => rfl, fun _ => rfl, fun _ => rfl, rfl, rfl, rfl, rfl, rfl, hspinLimit, hsurgeLimit⟩

theorem limitInUse_iff (s : State) (id : ParamId) (v : Nat) :
    limitInUse s id v = true ↔ id = .spinLimit ∧ v < s.spinningCount ∨ id = .surgeLimit ∧ v < s.risingCount := by
  cases id <;> simp [limitInUse]

/-- Settles O14: the refusals of the judgement in their order, and `Params.get_put`; a value that stands already is stored by leaving
the state alone. -/
theorem setpStores : Obligations.SetpStores := by
  unfold Obligations.SetpStores
  refine fun s seq id value hcan => ⟨fun hrange => ?range, fun hrange hin => ?inUse, fun hrange hspin hsurge => ?stored⟩
  case range =>
    refine (exec_setpInstr ..).trans (handle_refuse _ _ _ _ _ _ hcan ?_)
    simp [judgeSetp, Bool.eq_false_iff.mpr (mt inTable99_iff.mpr hrange)]
  case inUse =>
    refine (exec_setpInstr ..).trans (handle_refuse _ _ _ _ _ _ hcan ?_)
    simp [judgeSetp, inTable99_iff.mp hrange, (limitInUse_iff s.popInbound id _).mpr hin]
  case stored =>
    have hfree : limitInUse s.popInbound id value.toNat = false := by
      refine Bool.eq_false_iff.mpr fun h => ?_
      rcases (limitInUse_iff ..).mp h with ⟨hid, hlt⟩ | ⟨hid, hlt⟩
      · exact Nat.not_lt.mpr (hspin hid) hlt
      · exact Nat.not_lt.mpr (hsurge hid) hlt
    have haccepted {v : State} (hv : judgeSetp id value s.popInbound = accept v) : Accepted (setpInstr id seq value) s 0x05 seq v :=
      (exec_setpInstr ..).trans (handle_accept _ _ _ _ _ _ hcan hv)
    have hj := judgeSetp_accept hrange hfree
    by_cases hsame : s.popInbound.params.get id = value.toNat
    · rw [if_pos hsame] at hj
      exact ⟨_, haccepted hj, hsame, fun _ _ => rfl, fun _ _ => rfl, fun _ _ _ => finish_self _⟩
    · rw [if_neg hsame] at hj
      refine ⟨_, haccepted hj, ?_, fun other hother => ?_, fun hage hfault => ?_, fun h1 h2 h3 =>
        finish_calm (Calm.applyParam h1 h2 h3 _ _)⟩
      · rw [State.applyParam_params, Params.get_put, if_pos rfl]
      · rw [State.applyParam_params, Params.get_put, if_neg hother]
        rfl
      · rw [State.applyParam_stores hage hfault]
        rfl

end Sys2Proof.Machine
end

section
/-! The end of an event (O4: R26, R35, R42, R106, R107, R114) and RESTART (O16, O17: R43, R102, R149, R180 to R182). -/

-- One declaration after another: elaborated in parallel, these files ask for more memory than a check has.
set_option Elab.async false

namespace Sys2Proof.Machine

/-! What the Spindle Manager's evaluations and the Scheduler leave of a spindle and of a request -/

/-- Of a spindle's records, what neither starts, evictions nor the Scheduler change. -/
def Spindle.standing (r : Spindle) : Option Geometry × Lines × Option Cause × Bool := (r.geometry, r.lines, r.cause, r.pinned)

/-- A request without its state and its hold reasons. -/
def Request.unjudged (r : Request) : Request := { r with status := .held, holds := ⟨false, false, false, false⟩ }

@[simp] theorem Request.withHolds_unjudged (r : Request) (h : Holds) : (r.withHolds h).unjudged = r.unjudged := by
  unfold Request.withHolds
  split <;> rfl

@[simp] theorem Request.spindleEvaluated_unjudged (p : Port) (held : Bool) (r : Request) :
    (r.spindleEvaluated p held).unjudged = r.unjudged := by
  unfold Request.spindleEvaluated
  split <;> simp

theorem State.enterState_table (s : State) (p : Port) (st : SpindleState) :
    (s.enterState p st).table =
      s.table.map (Request.spindleEvaluated p (!(st == .ready && ((s.spindle p).enter st).tracker.tracked))) :=
  congrArg State.table (s.enterState_eq p st)

theorem State.enterState_unjudged (s : State) (p : Port) (st : SpindleState) :
    (s.enterState p st).table.map Request.unjudged = s.table.map Request.unjudged := by
  rw [State.enterState_table, List.map_map]
  exact List.map_congr_left fun r _ => Request.spindleEvaluated_unjudged _ _ r

theorem State.enterState_standing (s : State) (p q : Port) (st : SpindleState) :
    ((s.enterState p st).spindle q).standing = (s.spindle q).standing := by
  by_cases hq : q = p
  · rw [hq, State.enterState_spindle_same]
    rfl
  · rw [State.enterState_spindle_of_ne _ _ hq]

theorem State.modSpindle_standing {s : State} {p : Port} {f : Spindle → Spindle} (hf : ∀ r, (f r).standing = r.standing) (q : Port) :
    ((s.modSpindle p f).spindle q).standing = (s.spindle q).standing := by
  rw [State.spindle_modSpindle]
  split
  · next h => exact h ▸ hf _
  · rfl

theorem State.joinWait_unjudged (s : State) (p : Port) : (s.joinWait p).table.map Request.unjudged = s.table.map Request.unjudged :=
  State.enterState_unjudged _ p .spinWait

theorem State.joinWait_standing (s : State) (p q : Port) : ((s.joinWait p).spindle q).standing = (s.spindle q).standing := by
  rw [State.joinWait, State.enterState_standing, State.setWaitList_spindle]

theorem State.endSpinDown_unjudged (s : State) (p : Port) :
    (s.endSpinDown p).table.map Request.unjudged = s.table.map Request.unjudged := by
  unfold State.endSpinDown
  dsimp only
  split
  · rw [State.joinWait_unjudged]
    exact State.enterState_unjudged s p .parked
  · exact State.enterState_unjudged s p .parked

theorem State.endSpinDown_standing (s : State) (p q : Port) : ((s.endSpinDown p).spindle q).standing = (s.spindle q).standing := by
  unfold State.endSpinDown
  dsimp only
  split
  · rw [State.joinWait_standing, State.modSpindle_standing (fun r => by rfl), State.enterState_standing]
  · exact State.enterState_standing s p q .parked

theorem State.enterSpinningDown_unjudged (s : State) (p : Port) :
    (s.enterSpinningDown p).table.map Request.unjudged = s.table.map Request.unjudged := by
  rw [State.enterSpinningDown_eq]
  split
  · exact State.enterState_unjudged s p .spinningDown
  · rw [State.endSpinDown_unjudged]
    exact State.enterState_unjudged s p .spinningDown

theorem State.enterSpinningDown_standing (s : State) (p q : Port) :
    ((s.enterSpinningDown p).spindle q).standing = (s.spindle q).standing := by
  have hbegin : ((s.beginSpinDown p).spindle q).standing = (s.spindle q).standing := by
    rw [State.beginSpinDown, State.modSpindle_standing (fun r => by rfl), State.enterState_standing]
  rw [State.enterSpinningDown_eq]
  split
  · exact hbegin
  · rw [State.endSpinDown_standing, hbegin]

theorem State.startHead_unjudged (s : State) : s.startHead.table.map Request.unjudged = s.table.map Request.unjudged := by
  unfold State.startHead
  split
  · rfl
  · exact State.enterState_unjudged _ _ .spinningUp

theorem State.startHead_standing (s : State) (q : Port) : (s.startHead.spindle q).standing = (s.spindle q).standing := by
  unfold State.startHead
  split
  · rfl
  · rw [State.modSpindle_standing (fun r => by rfl), State.enterState_standing, State.setWaitList_spindle]

/-- What a start keeps and an eviction keeps, the evaluations keep. -/
theorem State.budgetRounds_keeps {β : Type} {g : State → β} (hstart : ∀ u : State, g u.startHead = g u)
    (hevict : ∀ (u : State) (p : Port), g (u.enterSpinningDown p) = g u) (n : Nat) (s : State) : g (s.budgetRounds n) = g s := by
  induction n generalizing s with
  | zero => rfl
  | succ n ih =>
    unfold State.budgetRounds
    split
    · rw [ih, hstart]
    · split
      · rw [ih, hevict]
      · rfl

theorem State.evalBudget_unjudged (s : State) : s.evalBudget.table.map Request.unjudged = s.table.map Request.unjudged :=
  State.budgetRounds_keeps (g := fun u => u.table.map Request.unjudged) State.startHead_unjudged State.enterSpinningDown_unjudged _ s

theorem State.evalBudget_standing (s : State) (q : Port) : (s.evalBudget.spindle q).standing = (s.spindle q).standing :=
  State.budgetRounds_keeps (g := fun u => (u.spindle q).standing) (fun u => u.startHead_standing q)
    (fun u p => u.enterSpinningDown_standing p q) _ s

theorem State.chooseChannel_unjudged (s : State) : s.chooseChannel.table.map Request.unjudged = s.table.map Request.unjudged := by
  unfold State.chooseChannel
  split
  · rfl
  · split
    · rfl
    · next r _ =>
      rw [State.engage, State.modRequest_table, List.map_map]
      refine List.map_congr_left fun q _ => ?_
      simp only [Function.comp_apply]
      split <;> rfl

theorem State.reevaluate_unjudged (s : State) : s.reevaluate.table.map Request.unjudged = s.table.map Request.unjudged := by
  unfold State.reevaluate
  split
  · rfl
  · rw [State.chooseChannel_unjudged,
      foldl_keeps State.table State.chooseSeek (fun u p => by simp) allPorts s]

theorem State.reevaluate_standing (s : State) (q : Port) : (s.reevaluate.spindle q).standing = (s.spindle q).standing := by
  unfold State.reevaluate
  split
  · rfl
  · rw [State.chooseChannel_spindle,
      foldl_keeps (fun u => (u.spindle q).standing) State.chooseSeek (fun u p => ?_) allPorts s]
    rw [State.chooseSeek_eq]
    cases u.seekRequest p with
    | none => rfl
    | some r =>
      exact State.modSpindle_standing (s := u) (p := p)
        (f := fun x => { x with
          arm := .seeking r.next.cylinder (some r.tag) (u.now + millisUs u.params.seekTimeout)
          orders := { x.orders with cylinderLines := r.next.cylinder, seekStrobes := x.orders.seekStrobes + 1 } })
        (fun _ => rfl) q

section
variable {b a : State} (h : stopDone b a = false)
include h

theorem finish_unjudged : (finish b a).table.map Request.unjudged = a.table.map Request.unjudged := by
  unfold finish
  simp only [h, Bool.false_eq_true, if_false]
  split <;> split <;> simp only [State.reevaluate_unjudged, State.evalBudget_unjudged]

theorem finish_standing (q : Port) : ((finish b a).spindle q).standing = (a.spindle q).standing := by
  unfold finish
  simp only [h, Bool.false_eq_true, if_false]
  split <;> split <;> simp only [State.reevaluate_standing, State.evalBudget_standing]

end

/-- Two states that differ in the listed fields alone. -/
theorem finish_eq (b a : State) :
    finish b a = { a with
      spindles := (finish b a).spindles, waitList := (finish b a).waitList, activity := (finish b a).activity,
      table := (finish b a).table, choiceHold := (finish b a).choiceHold, chan := (finish b a).chan,
      stopRequest := (finish b a).stopRequest, free := (finish b a).free, replies := (finish b a).replies,
      stream := (finish b a).stream, restart := (finish b a).restart, events := (finish b a).events,
      notice := (finish b a).notice } := by
  have hframe := finish_frame b a
  generalize finish b a = f at hframe ⊢
  cases f
  obtain ⟨rfl, rfl, rfl, rfl, rfl, rfl, rfl, rfl, rfl, rfl, rfl⟩ := hframe
  rfl

theorem finish_eq_running {b a : State} (h : stopDone b a = false) :
    finish b a = { a with
      spindles := (finish b a).spindles, waitList := (finish b a).waitList, table := (finish b a).table,
      chan := (finish b a).chan, events := (finish b a).events } := by
  have hframe := finish_frame b a
  have hrunning := finish_frame_running b a h
  generalize finish b a = f at hframe hrunning ⊢
  cases f
  obtain ⟨rfl, rfl, rfl, rfl, rfl, rfl, rfl, rfl, rfl, rfl, rfl⟩ := hframe
  obtain ⟨rfl, rfl, rfl, rfl, rfl, rfl, rfl, rfl⟩ := hrunning
  rfl

/-- Settles O4: `stopDone_iff`, `budgetDue_iff` and `scheduleDue_iff` read the causes. -/
theorem eventEndFrame : Obligations.EventEndFrame := by
  unfold Obligations.EventEndFrame
  intro b a
  refine ⟨?parts, finish_eq b a, fun hrun => ⟨finish_eq_running hrun, finish_unjudged hrun, fun p => ?_⟩⟩
  case parts =>
    obtain ⟨c, hc⟩ : ∃ c, c = if stopDone b a then a.clearingStep (spindlesCleared b a) else a := ⟨_, rfl⟩
    obtain ⟨d, hd⟩ : ∃ d, d = if budgetDue b c then c.evalBudget else c := ⟨_, rfl⟩
    have hfinish : finish b a = if scheduleDue b d then d.reevaluate else d := by rw [finish, ← hc, ← hd]
    refine ⟨c, d, fun h => ?_, fun h => ?_, fun h => ?_, fun h => ?_, fun h => ?_, fun h => ?_, fun h => if_pos h,
      fun h => if_neg (by simp [h])⟩
    · exact hc.trans (if_pos (stopDone_iff.mpr h))
    · exact hc.trans (if_neg (mt stopDone_iff.mp h))
    · exact hd.trans (if_pos (budgetDue_iff.mpr h))
    · exact hd.trans (if_neg (mt budgetDue_iff.mp h))
    · exact hfinish.trans (if_pos (scheduleDue_iff.mpr h))
    · exact hfinish.trans (if_neg (mt scheduleDue_iff.mp h))
  · have hstanding := finish_standing hrun p
    simp only [Spindle.standing, Prod.mk.injEq] at hstanding
    exact hstanding

/-! R180: the taking of a RESTART -/

theorem exec_restart_taken {s : State} {seq : Byte} (hcan : s.canHandle (.restart seq []) = true) :
    exec (.restart seq []) s = .next (settle s.popInbound (s.popInbound.takeRestart seq)) := by
  change execRestart seq [] s = _
  rw [execRestart, hcan]
  rfl

/-- R149: a RESTART whose channel goes on makes nothing due, since the choice hold it sets holds the Scheduler. -/
theorem finish_beginRestart {s : State} (h : s.chan ≠ none) (seq : Byte) : finish s (s.beginRestart seq) = s.beginRestart seq := by
  have hstop : stopDone s (s.beginRestart seq) = false := Bool.eq_false_iff.mpr fun hdone => h (stopDone_iff.mp hdone).2.1
  have hbudget : budgetDue s (s.beginRestart seq) = false :=
    Bool.eq_false_iff.mpr fun hdue => (budgetDue_iff.mp hdue).elim (fun h => (Calm.refl s).no_budgetCause (.inl h))
      fun h => (Calm.refl s).no_budgetCause (.inr h)
  have hschedule : scheduleDue s (s.beginRestart seq) = false := by
    have hnone := (Calm.refl s).no_scheduleCause
    refine Bool.eq_false_iff.mpr fun hdue => ?_
    rcases scheduleDue_iff.mp hdue with h | h | h | h | h | ⟨-, hclear⟩
    · exact hnone (.inl h)
    · exact hnone (.inr (.inl h))
    · exact hnone (.inr (.inr (.inl h)))
    · exact hnone (.inr (.inr (.inr (.inl h))))
    · exact hnone (.inr (.inr (.inr (.inr (.inl h)))))
    · exact Bool.false_ne_true hclear.symm
  simp [finish, hstop, hbudget, hschedule]

theorem State.stopNow_eq {s : State} {e : Engagement} (h : s.chan = some e) :
    s.stopNow = if e.phase.stopsAtOnce then s.channelClosed e else s := by
  simp only [State.stopNow, h, State.stopChannel, State.closeChannel_eq h]

/-- Settles O16: `State.stopNow` by the phase of the Channel. -/
theorem restartTaken : Obligations.RestartTaken := by
  unfold Obligations.RestartTaken
  refine fun s seq hcan => ⟨fun hidle => ?idle, fun e he hstops => ?stops, fun e he hgoes => ?goesOn, fun ph => ?phases⟩
  case idle =>
    have hnow : s.popInbound.takeRestart seq = s.popInbound.beginRestart seq := by
      simp [State.takeRestart, State.stopNow, hidle]
    rw [exec_restart_taken hcan, hnow]
    rfl
  case stops =>
    have hchan : (s.popInbound.beginRestart seq).chan = some e := he
    have hnow : s.popInbound.takeRestart seq = (s.popInbound.beginRestart seq).channelClosed e := by
      rw [State.takeRestart, State.stopNow_eq hchan, if_pos hstops]
    rw [exec_restart_taken hcan, hnow]
    rfl
  case goesOn =>
    have hchan : (s.popInbound.beginRestart seq).chan = some e := he
    have hnow : s.popInbound.takeRestart seq = s.popInbound.beginRestart seq := by
      rw [State.takeRestart, State.stopNow_eq hchan, hgoes, if_neg Bool.false_ne_true]
    have hbusy : s.popInbound.chan ≠ none := by simp [he]
    rw [exec_restart_taken hcan, hnow, settle, finish_beginRestart hbusy, serve_quiet] <;> rfl
  case phases => rcases ph with _ | _ | _ | _ | ((_ | _)) | _ | (_ | _) <;> simp [Phase.stopsAtOnce]

/-! R181: the clearing step, part by part -/

@[simp] theorem Request.afterReturn_staged (n : Nat) (r : Request) : (r.afterReturn n).staged = r.staged := by
  unfold Request.afterReturn
  split <;> simp

theorem State.returnBuffers_stagedBuffers (s : State) (n : Nat) : (s.returnBuffers n).stagedBuffers = s.stagedBuffers := by
  simp [State.stagedBuffers, State.returnBuffers_eq, Function.comp_def]

theorem State.orphanSeek_eq : State.orphanSeek = fun u p => u.modSpindle p fun r => { r with arm := r.arm.orphan } := rfl

/-- R181 steps 1 and 2: the records emptied, and what the arms are then. -/
theorem State.emptied_eq (s : State) :
    s.flushOutbound.removeRequests = { s with
      spindles := s.flushOutbound.removeRequests.spindles, stream := [], events := [], notice := .zero, table := []
      free := s.free + s.streamBuffers + s.stagedBuffers } := by
  have hstaged : s.flushOutbound.stagedBuffers = s.stagedBuffers := s.returnBuffers_stagedBuffers _
  rw [State.removeRequests, State.setTable, hstaged, State.orphanSeek_eq, State.foldl_modSpindle_eq]
  simp only [State.flushOutbound, State.returnBuffers_eq, State.setStream, State.setEvents, State.setNotice]

theorem State.emptied_spindle (s : State) (p : Port) :
    s.flushOutbound.removeRequests.spindle p = { s.spindle p with arm := (s.spindle p).arm.orphan } := by
  rw [State.removeRequests, State.setTable_spindle, State.orphanSeek_eq,
    State.foldl_modSpindle_spindle _ (by decide), if_pos (mem_allPorts p)]
  simp

/-- R43: whether the clearing step parks a spindle. -/
def Spindle.waitsUnpinned (r : Spindle) : Bool := r.state == .spinWait && !r.pinned

/-- R43: the record of a spindle that the clearing step parks. -/
def Spindle.parkedBy (r : Spindle) : Spindle := if r.waitsUnpinned then r.enter .parked else r

theorem State.restartPark_eq {s : State} (hempty : s.table = []) (p : Port) :
    s.restartPark p = { s with
      spindles := (s.restartPark p).spindles
      waitList := if (s.spindle p).waitsUnpinned then s.waitList.filter (· != p) else s.waitList
      events := if (s.spindle p).waitsUnpinned then stateChangePosted p .parked none s.events else s.events } := by
  unfold State.restartPark
  by_cases hwaits : (s.spindle p).waitsUnpinned = true
  · have hwait : (s.spindle p).state = .spinWait ∧ (s.spindle p).pinned = false := by simpa [Spindle.waitsUnpinned] using hwaits
    have hparked := State.enterState_unready (s := s) (p := p) (st := .parked) (by decide)
    simp only [hempty, List.map_nil, hwait.1, reduceCtorEq, not_false_eq_true, ne_eq, and_self, if_true, if_false] at hparked
    rw [if_pos hwait, if_pos hwaits, if_pos hwaits, hempty]
    exact hparked
  · have hwait : ¬ ((s.spindle p).state = .spinWait ∧ (s.spindle p).pinned = false) := by simpa [Spindle.waitsUnpinned] using hwaits
    rw [if_neg hwait, if_neg hwaits, if_neg hwaits]

theorem State.restartPark_spindle (s : State) (p q : Port) :
    (s.restartPark p).spindle q = if p = q then (s.spindle q).parkedBy else s.spindle q := by
  unfold State.restartPark Spindle.parkedBy
  by_cases hpq : p = q
  · subst hpq
    by_cases hwait : (s.spindle p).state = .spinWait ∧ (s.spindle p).pinned = false
    · rw [if_pos hwait, if_pos rfl, if_pos (by simpa [Spindle.waitsUnpinned] using hwait), State.enterState_spindle_same]
    · rw [if_neg hwait, if_pos rfl, if_neg (by simpa [Spindle.waitsUnpinned] using hwait)]
  · rw [if_neg hpq]
    split
    · exact State.enterState_spindle_of_ne _ _ (Ne.symm hpq)
    · rfl

theorem State.foldl_restartPark_spindle {l : List Port} (hl : l.Nodup) (s : State) (p : Port) :
    (l.foldl State.restartPark s).spindle p = if p ∈ l then (s.spindle p).parkedBy else s.spindle p := by
  induction l generalizing s with
  | nil => rfl
  | cons q l ih =>
    obtain ⟨hq, hl⟩ := List.nodup_cons.mp hl
    rw [List.foldl_cons, ih hl, State.restartPark_spindle]
    by_cases h : q = p
    · subst h
      rw [if_pos rfl, if_neg hq, if_pos List.mem_cons_self]
    · have hmem : p ∈ q :: l ↔ p ∈ l := by rw [List.mem_cons, or_iff_right (Ne.symm h)]
      simp only [if_neg h, hmem]

/-- R188: a STATE_CHANGE to PARKED alone in its record. -/
def parkedEvent (p : Port) : EventRecord := ⟨p, ⟨true, false, false, false, false⟩, .parked, none, 1⟩

theorem State.foldl_restartPark_eq {l : List Port} (hl : l.Nodup) {s : State} (hempty : s.table = [])
    (hevents : ∀ r ∈ s.events, r.spindle ∉ l) :
    l.foldl State.restartPark s = { s with
      spindles := (l.foldl State.restartPark s).spindles
      waitList := s.waitList.filter fun p => !(l.contains p && (s.spindle p).waitsUnpinned)
      events := s.events ++ (l.filter fun p => (s.spindle p).waitsUnpinned).map parkedEvent } := by
  induction l generalizing s with
  | nil =>
    have hall : s.waitList.filter (fun _ => true) = s.waitList := List.filter_eq_self.mpr fun _ _ => rfl
    simp [hall]
  | cons q l ih =>
    obtain ⟨hq, hl⟩ := List.nodup_cons.mp hl
    have hstep := State.restartPark_eq hempty q
    have hothers (p : Port) (hp : p ≠ q) : (s.restartPark q).spindle p = s.spindle p := by
      rw [State.restartPark_spindle, if_neg (Ne.symm hp)]
    have hwaitList : ((s.restartPark q).waitList.filter fun p => !(l.contains p && ((s.restartPark q).spindle p).waitsUnpinned)) =
        s.waitList.filter fun p => !((q :: l).contains p && (s.spindle p).waitsUnpinned) := by
      rw [congrArg State.waitList hstep]
      by_cases hwaits : (s.spindle q).waitsUnpinned = true
      · simp only [hwaits, if_true, List.filter_filter]
        refine List.filter_congr fun p _ => ?_
        by_cases hp : p = q
        · simp [hp, hq, hwaits]
        · simp [hp, hothers p hp]
      · simp only [hwaits, if_false, Bool.false_eq_true]
        refine List.filter_congr fun p _ => ?_
        by_cases hp : p = q
        · simp [hp, hq, hwaits]
        · simp [hp, hothers p hp]
    have hcreate : (s.spindle q).waitsUnpinned = true → (s.restartPark q).events = s.events ++ [parkedEvent q] := fun hwaits => by
      rw [congrArg State.events hstep]
      simp only [hwaits, if_true]
      exact postInto_create (fun r hr heq => hevents r hr (heq ▸ List.mem_cons_self)) _ _ _
    have hkeep : (s.spindle q).waitsUnpinned = false → (s.restartPark q).events = s.events := fun hwaits => by
      rw [congrArg State.events hstep]
      simp [hwaits]
    have hfilter : (l.filter fun p => ((s.restartPark q).spindle p).waitsUnpinned) = l.filter fun p => (s.spindle p).waitsUnpinned :=
      List.filter_congr fun p hp => by rw [hothers p fun h => hq (h ▸ hp)]
    have hnone : ∀ r ∈ (s.restartPark q).events, r.spindle ∉ l := by
      intro r hr
      cases hwaits : (s.spindle q).waitsUnpinned with
      | false => exact fun hmem => hevents r (hkeep hwaits ▸ hr) (List.mem_cons_of_mem _ hmem)
      | true =>
        rw [hcreate hwaits, List.mem_append, List.mem_singleton] at hr
        rcases hr with hr | rfl
        · exact fun hmem => hevents r hr (List.mem_cons_of_mem _ hmem)
        · exact hq
    have hrest := ih (s := s.restartPark q) hl (by rw [congrArg State.table hstep]; exact hempty) hnone
    have hposted : (s.restartPark q).events ++ (l.filter fun p => ((s.restartPark q).spindle p).waitsUnpinned).map parkedEvent =
        s.events ++ ((q :: l).filter fun p => (s.spindle p).waitsUnpinned).map parkedEvent := by
      rw [hfilter]
      cases hwaits : (s.spindle q).waitsUnpinned with
      | false => rw [hkeep hwaits, List.filter_cons_of_neg (p := fun p => (s.spindle p).waitsUnpinned) (by simp [hwaits])]
      | true =>
        rw [hcreate hwaits, List.filter_cons_of_pos (p := fun p => (s.spindle p).waitsUnpinned) hwaits, List.append_assoc,
          List.map_cons, List.singleton_append]
    rw [hwaitList, hposted] at hrest
    rw [List.foldl_cons]
    refine hrest.trans ?_
    rw [hstep]

theorem State.foldl_touchActivity_eq (l : List Port) (s : State) :
    l.foldl State.touchActivity s = s.setActivity (l.foldl (fun order p => toTail p order) s.activity) := by
  induction l generalizing s with
  | nil => rfl
  | cons p l ih =>
    rw [List.foldl_cons, List.foldl_cons, ih, State.touchActivity_activity]
    rfl

/-- R43: the record of a spindle after the Spindle Manager's part of the clearing step. -/
def Spindle.restarted (params : Params) (now : Nat) (r : Spindle) : Spindle :=
  if r.pinned then r
  else
    { r with
      respin := false
      idleTimer :=
        if r.state = .ready then if params.idleTimeout = 0 then none else some (now + secondsUs params.idleTimeout)
        else r.idleTimer }

theorem State.restartSpindle_eq (s : State) (p : Port) :
    s.restartSpindle p = s.modSpindle p (Spindle.restarted s.params s.now) := rfl

theorem State.foldl_restartSpindle_eq (l : List Port) (s : State) :
    l.foldl State.restartSpindle s = l.foldl (fun u q => u.modSpindle q (Spindle.restarted s.params s.now)) s := by
  induction l generalizing s with
  | nil => rw [List.foldl_nil, List.foldl_nil]
  | cons p l ih =>
    have hparams : (s.restartSpindle p).params = s.params := by simp
    have hnow : (s.restartSpindle p).now = s.now := by simp
    rw [List.foldl_cons, ih, hparams, hnow, State.restartSpindle_eq, List.foldl_cons]

/-- R181, R182: the clearing step. -/
theorem State.clearingStep_eq (s : State) (moved : List Port) :
    s.clearingStep moved = { s with
      spindles := (s.clearingStep moved).spindles
      waitList := s.waitList.filter fun p => !(s.spindle p).waitsUnpinned
      activity := moved.foldl (fun order p => toTail p order) s.activity
      table := [], choiceHold := false, stopRequest := false, stream := [], notice := .zero, restart := none
      free := s.free + s.streamBuffers + s.stagedBuffers
      events := (allPorts.filter fun p => (s.spindle p).waitsUnpinned).map parkedEvent
      replies := s.replies ++ [⟨0x08, s.restart.getD 0, .ok, s.free + s.streamBuffers + s.stagedBuffers, 32, []⟩] } ∧
    ∀ p : Port, (s.clearingStep moved).spindle p =
      Spindle.restarted s.params s.now (Spindle.parkedBy { s.spindle p with arm := (s.spindle p).arm.orphan }) := by
  have hemptied := s.emptied_eq
  have hspindle := s.emptied_spindle
  have hwaits (p : Port) : (s.flushOutbound.removeRequests.spindle p).waitsUnpinned = (s.spindle p).waitsUnpinned := by
    rw [hspindle]
    rfl
  have hparked := State.foldl_restartPark_eq (l := allPorts) (by decide) (s := s.flushOutbound.removeRequests) rfl
    (fun r hr => by rw [congrArg State.events hemptied] at hr; simp at hr)
  have hpark := State.foldl_restartPark_spindle (l := allPorts) (by decide) s.flushOutbound.removeRequests
  simp only [hwaits, congrArg State.waitList hemptied, congrArg State.events hemptied, List.nil_append,
    List.contains_iff_mem.mpr (mem_allPorts _), Bool.true_and] at hparked
  obtain ⟨u, hu⟩ : ∃ u, u = allPorts.foldl State.restartPark s.flushOutbound.removeRequests := ⟨_, rfl⟩
  rw [← hu] at hparked hpark
  have hparams : u.params = s.params := by rw [hparked, hemptied]
  have hnow : u.now = s.now := by rw [hparked, hemptied]
  obtain ⟨v, hv⟩ : ∃ v, v = allPorts.foldl (fun u q => u.modSpindle q (Spindle.restarted s.params s.now))
      (u.setActivity (moved.foldl (fun order p => toTail p order) u.activity)) := ⟨_, rfl⟩
  have hstep : s.clearingStep moved = v.endRestart.pushReply 0x08 (s.restart.getD 0) .ok [] := by
    rw [State.clearingStep, State.restartSpindles, ← hu, State.foldl_touchActivity_eq, State.foldl_restartSpindle_eq, hv, ← hparams,
      ← hnow]
    rfl
  have hframe : v = { u with spindles := v.spindles, activity := moved.foldl (fun order p => toTail p order) u.activity } := by
    have heq := State.foldl_modSpindle_eq (Spindle.restarted s.params s.now) allPorts
      (u.setActivity (moved.foldl (fun order p => toTail p order) u.activity))
    rw [← hv] at heq
    exact heq
  refine ⟨?_, fun p => ?_⟩
  · rw [hstep]
    generalize hspindles : (v.endRestart.pushReply 0x08 (s.restart.getD 0) .ok []).spindles = spindles
    have hkept : v.spindles = spindles := hspindles
    rw [hkept, hparked, hemptied] at hframe
    rw [hframe]
    rfl
  · rw [hstep, State.pushReply_spindle, State.endRestart_spindle, hv, State.foldl_modSpindle_spindle _ (by decide),
      if_pos (mem_allPorts p), State.setActivity_spindle, hpark, if_pos (mem_allPorts p), hspindle]

/-- R107: the Scheduler finds nothing to choose in an empty table. -/
theorem State.reevaluate_idle {s : State} (hempty : s.table = []) : s.reevaluate = s := by
  have hseek : s.chooseSeek = fun _ => s := funext fun p => by
    rw [State.chooseSeek_eq, State.seekRequest]
    cases s.seekEligible p <;> simp [State.queuedOf, hempty, seekChoice, firstLeast]
  have hfold : allPorts.foldl State.chooseSeek s = s := by simp [allPorts, hseek]
  unfold State.reevaluate
  split
  · rfl
  · rw [hfold]
    exact State.chooseChannel_of_no_candidate fun q hq => absurd hq (by simp [hempty])

theorem State.evalBudget_idle {s : State} (hempty : s.table = []) : s.evalBudget.table = [] := by
  have h := s.evalBudget_unjudged
  rwa [hempty, List.map_nil, List.map_eq_nil_iff] at h

/-- R181: the end of an event in which the clearing step is made. -/
theorem finish_cleared {b a : State} (h : stopDone b a = true) :
    finish b a = if budgetDue b (a.clearingStep (spindlesCleared b a)) then (a.clearingStep (spindlesCleared b a)).evalBudget
      else a.clearingStep (spindlesCleared b a) := by
  obtain ⟨c, hc⟩ : ∃ c, c = a.clearingStep (spindlesCleared b a) := ⟨_, rfl⟩
  have hempty : c.table = [] := by rw [hc, congrArg State.table (a.clearingStep_eq _).1]
  have hempty' : (if budgetDue b c then c.evalBudget else c).table = [] := by
    split
    · exact State.evalBudget_idle hempty
    · exact hempty
  unfold finish
  rw [h, if_pos rfl, ← hc]
  dsimp only
  generalize (if budgetDue b c then c.evalBudget else c) = d at hempty' ⊢
  split
  · exact State.reevaluate_idle hempty'
  · rfl

theorem Arm.orphan_eq (a : Arm) :
    a.orphan = (match a with
      | .seeking target _ deadline => .seeking target none deadline
      | arm => arm) := by
  cases a <;> rfl

/-- The records of a spindle after the clearing step, which gives up the owner of its seek. -/
def Spindle.cleared (params : Params) (now : Nat) (r : Spindle) : Spindle :=
  (Spindle.parkedBy { r with arm := r.arm.orphan }).restarted params now

section
variable (params : Params) (now : Nat) {r : Spindle}

theorem Spindle.cleared_pinned (h : r.pinned = true) : r.cleared params now = { r with arm := r.arm.orphan } := by
  simp [Spindle.cleared, Spindle.parkedBy, Spindle.waitsUnpinned, Spindle.restarted, h]

theorem Spindle.cleared_ready (h : r.pinned = false) (hst : r.state = .ready) : r.cleared params now = { r with
    arm := r.arm.orphan, respin := false
    idleTimer := if params.idleTimeout = 0 then none else some (now + params.idleTimeout * 1000000) } := by
  simp [Spindle.cleared, Spindle.parkedBy, Spindle.waitsUnpinned, Spindle.restarted, h, hst, secondsUs]

theorem Spindle.cleared_spinWait (h : r.pinned = false) (hst : r.state = .spinWait) : r.cleared params now = { r with
    arm := r.arm.orphan, respin := false, state := .parked, spinUpTimer := none, spinDownTimer := none } := by
  simp [Spindle.cleared, Spindle.parkedBy, Spindle.waitsUnpinned, Spindle.restarted, Spindle.enter, h, hst, SpindleState.spinning]

theorem Spindle.cleared_other (h : r.pinned = false) (hready : r.state ≠ .ready) (hwait : r.state ≠ .spinWait) :
    r.cleared params now = { r with arm := r.arm.orphan, respin := false } := by
  simp [Spindle.cleared, Spindle.parkedBy, Spindle.waitsUnpinned, Spindle.restarted, h, hready, hwait]

theorem Spindle.cleared_arm (r : Spindle) : (r.cleared params now).arm = r.arm.orphan := by
  by_cases hpinned : r.pinned = true
  · rw [Spindle.cleared_pinned _ _ hpinned]
  · have hunpinned : r.pinned = false := by simpa using hpinned
    by_cases hready : r.state = .ready
    · rw [Spindle.cleared_ready _ _ hunpinned hready]
    · by_cases hwait : r.state = .spinWait
      · rw [Spindle.cleared_spinWait _ _ hunpinned hwait]
      · rw [Spindle.cleared_other _ _ hunpinned hready hwait]

end

/-- Settles O17: `State.clearingStep_eq`, with `Spindle.cleared` for the records of a spindle. -/
theorem clearingStep : Obligations.ClearingStep := by
  unfold Obligations.ClearingStep
  intro b a hstop
  obtain ⟨hframe, hspindle⟩ := a.clearingStep_eq (spindlesCleared b a)
  refine ⟨a.clearingStep (spindlesCleared b a), finish_cleared hstop, hframe, fun p => ?_, fun haccounted hrun hchan => ?_⟩
  · have hcleared : (a.clearingStep (spindlesCleared b a)).spindle p = (a.spindle p).cleared a.params a.now := hspindle p
    rw [hcleared, Spindle.cleared_arm, Arm.orphan_eq]
    refine ⟨rfl, fun h => ?_, fun h hst => ?_, fun h hst => ?_, fun h hready hwait => ?_⟩
    · rw [Spindle.cleared_pinned _ _ h, Arm.orphan_eq] <;> rfl
    · rw [Spindle.cleared_ready _ _ h hst, Arm.orphan_eq] <;> rfl
    · rw [Spindle.cleared_spinWait _ _ h hst, Arm.orphan_eq] <;> rfl
    · rw [Spindle.cleared_other _ _ h hready hwait, Arm.orphan_eq] <;> rfl
  · obtain ⟨-, hcount, hcut⟩ := haccounted
    have hnotCut : a.cutOff = false := Bool.eq_false_iff.mpr fun h => Bool.false_ne_true (hrun.symm.trans (hcut h))
    have hfree : (a.clearingStep (spindlesCleared b a)).free = a.free + a.streamBuffers + a.stagedBuffers :=
      congrArg State.free hframe
    simp only [State.buffersInUse, hchan, hnotCut, Option.map_none, Option.getD_none, Config.bufferCount] at hcount
    rw [hfree]
    split <;> simp only [*, if_true, Bool.false_eq_true, if_false] at hcount <;> omega

end Sys2Proof.Machine
end

section
/-! The Spindle Manager's evaluations (O28: R24, R26, R35). A start shortens the wait list, and an eviction takes a spindle out of READY
and lengthens the wait list by at most one, so that `State.budgetWork` bounds how many can act. -/

-- One declaration after another: elaborated in parallel, these files ask for more memory than a check has.
set_option Elab.async false

namespace Sys2Proof.Machine

/-! Counts of spindles -/

/-- A count over a list in which one entry changes what it counts as. -/
theorem countP_update {α : Type} [DecidableEq α] {l : List α} (hl : l.Nodup) {x : α} (hx : x ∈ l) {c d : α → Bool}
    (h : ∀ y, y ≠ x → d y = c y) : l.countP d + (c x).toNat = l.countP c + (d x).toNat := by
  induction l with
  | nil => simp at hx
  | cons y l ih =>
    obtain ⟨hy, hl⟩ := List.nodup_cons.mp hl
    rw [List.countP_cons, List.countP_cons]
    by_cases hyx : y = x
    · subst hyx
      have hrest : l.countP d = l.countP c := List.countP_congr fun z hz => by rw [h z fun hzy => hy (hzy ▸ hz)]
      rw [hrest]
      cases c y <;> cases d y <;> simp
    · have hmem : x ∈ l := (List.mem_cons.mp hx).resolve_left (Ne.symm hyx)
      have hrest := ih hl hmem
      rw [h y hyx]
      omega

/-- How many spindles are in one of some states. -/
def State.countIn (s : State) (c : SpindleState → Bool) : Nat := allPorts.countP fun p => c (s.spindle p).state

theorem State.spinningCount_eq (s : State) : s.spinningCount = s.countIn SpindleState.spinning :=
  List.countP_eq_length_filter.symm

theorem State.risingCount_eq (s : State) : s.risingCount = s.countIn (· == .spinningUp) :=
  List.countP_eq_length_filter.symm

theorem State.countIn_update {s t : State} {p : Port} (h : ∀ q, q ≠ p → (t.spindle q).state = (s.spindle q).state)
    (c : SpindleState → Bool) :
    t.countIn c + (c (s.spindle p).state).toNat = s.countIn c + (c (t.spindle p).state).toNat :=
  countP_update (by decide) (mem_allPorts p) fun q hq => congrArg c (h q hq)

theorem State.countIn_le (s : State) (c : SpindleState → Bool) : s.countIn c ≤ 8 := List.countP_le_length

/-! R26: the start -/

theorem State.startHead_waiting {s : State} {p : Port} {rest : List Port} (h : s.waitList = p :: rest) :
    s.startHead = ((s.setWaitList rest).enterState p .spinningUp).modSpindle p fun r =>
      { r with spinUpTimer := some (s.now + secondsUs s.params.spinupTimeout) } := by
  simp only [State.startHead, h]

section
variable {s : State} {p : Port} {rest : List Port} (h : s.waitList = p :: rest)
include h

theorem State.startHead_spindle_same : s.startHead.spindle p =
    { (s.spindle p).enter .spinningUp with spinUpTimer := some (s.now + s.params.spinupTimeout * 1000000) } := by
  rw [State.startHead_waiting h, State.spindle_modSpindle_same, State.enterState_spindle_same, State.setWaitList_spindle]
  rfl

theorem State.startHead_spindle_of_ne {q : Port} (hq : q ≠ p) : s.startHead.spindle q = s.spindle q := by
  rw [State.startHead_waiting h, State.spindle_modSpindle, if_neg hq.symm, State.enterState_spindle_of_ne _ _ hq,
    State.setWaitList_spindle]

theorem State.startHead_eq : s.startHead = { s with
    spindles := s.startHead.spindles
    waitList := if (s.spindle p).state = .spinWait then rest.filter (· != p) else rest
    table := s.table.map (Request.spindleEvaluated p true)
    events := stateChangePosted p .spinningUp none s.events } := by
  have hframe := State.enterState_unready (s := s.setWaitList rest) (p := p) (st := .spinningUp) (by decide)
  simp only [ne_eq, reduceCtorEq, not_false_eq_true, and_true, if_false, State.setWaitList_spindle] at hframe
  have hmod (u : State) (f : Spindle → Spindle) : u.modSpindle p f = { u with spindles := (u.modSpindle p f).spindles } := rfl
  have hstart := State.startHead_waiting h
  rw [hmod, hframe] at hstart
  rw [hstart]
  rfl

end

/-! Starts and evictions come to an end -/

theorem State.beginSpinDown_waitList_length (s : State) (p : Port) : (s.beginSpinDown p).waitList.length ≤ s.waitList.length := by
  rw [congrArg State.waitList (s.beginSpinDown_eq p)]
  simp only
  split
  · exact List.length_filter_le _ _
  · exact Nat.le_refl _

theorem State.enterSpinningDown_waitList_length (s : State) (p : Port) :
    (s.enterSpinningDown p).waitList.length ≤ s.waitList.length + 1 := by
  have hbegin := s.beginSpinDown_waitList_length p
  rw [State.enterSpinningDown_eq]
  split
  · omega
  · have hstate : ((s.beginSpinDown p).spindle p).state = .spinningDown := by rw [State.beginSpinDown_spindle_same]; rfl
    rw [congrArg State.waitList (State.endSpinDown_eq hstate)]
    simp only
    split
    · rw [List.length_append, List.length_singleton]
      omega
    · omega

/-- R30, R31: the state in which a spindle stands after it has entered SPINNING_DOWN. -/
theorem State.enterSpinningDown_state (s : State) (p : Port) :
    ((s.enterSpinningDown p).spindle p).state =
      if (s.spindle p).lines.spun then .spinningDown else if (s.spindle p).respin then .spinWait else .parked := by
  have hstate : ((s.beginSpinDown p).spindle p).state = .spinningDown := by rw [State.beginSpinDown_spindle_same]; rfl
  have hrespin : ((s.beginSpinDown p).spindle p).respin = (s.spindle p).respin := by rw [State.beginSpinDown_spindle_same]; rfl
  rw [State.enterSpinningDown_eq]
  split
  · exact hstate
  · rw [State.endSpinDown_spindle_same hstate, hrespin]

theorem State.enterSpinningDown_spindle_of_ne (s : State) {p q : Port} (hq : q ≠ p) :
    (s.enterSpinningDown p).spindle q = s.spindle q := by
  rw [State.enterSpinningDown_eq]
  split
  · exact s.beginSpinDown_spindle_of_ne hq
  · rw [State.endSpinDown_spindle_of_ne hq, State.beginSpinDown_spindle_of_ne _ hq]

/-- A bound on how many starts and evictions can still act. -/
def State.budgetWork (s : State) : Nat := s.waitList.length + 2 * s.countIn (· == .ready)

theorem State.canStart_iff (s : State) :
    s.canStart = true ↔ s.waitList ≠ [] ∧ s.spinningCount < s.params.spinLimit ∧ s.risingCount < s.params.surgeLimit := by
  simp [State.canStart, and_assoc]

theorem State.evictable_iff (s : State) (p : Port) :
    s.evictable p = true ↔
      (s.spindle p).state = .ready ∧ (s.spindle p).pinned = false ∧ s.requestCount p = 0 ∧ (s.spindle p).arm.timer = none := by
  simp [State.evictable, and_assoc]

theorem State.evictChoice_iff (s : State) (p : Port) :
    s.evictChoice = some p ↔
      (s.waitList ≠ [] ∧ s.spinningCount = s.params.spinLimit ∧ s.stoppingCount < s.waitList.length) ∧
      ∃ before after, s.activity = before ++ p :: after ∧ s.evictable p = true ∧ ∀ q ∈ before, s.evictable q = false := by
  unfold State.evictChoice
  split
  · next h =>
    have hcondition : s.waitList ≠ [] ∧ s.spinningCount = s.params.spinLimit ∧ s.stoppingCount < s.waitList.length := by
      simpa [and_assoc] using h
    rw [List.find?_eq_some_iff_append, and_iff_right hcondition]
    simp only [Bool.not_eq_true']
    exact ⟨fun ⟨hp, before, after, hsplit, hnone⟩ => ⟨before, after, hsplit, hp, hnone⟩,
      fun ⟨before, after, hsplit, hp, hnone⟩ => ⟨hp, before, after, hsplit, hnone⟩⟩
  · next h =>
    have hcondition : ¬ (s.waitList ≠ [] ∧ s.spinningCount = s.params.spinLimit ∧ s.stoppingCount < s.waitList.length) := by
      simpa [and_assoc] using h
    simp [hcondition]

theorem State.evictChoice_ready {s : State} {p : Port} (h : s.evictChoice = some p) : (s.spindle p).state = .ready := by
  obtain ⟨-, before, after, -, hp, -⟩ := (s.evictChoice_iff p).mp h
  exact ((s.evictable_iff p).mp hp).1

theorem State.startHead_work {s : State} (h : s.waitList ≠ []) : s.startHead.budgetWork < s.budgetWork := by
  obtain ⟨p, rest, hlist⟩ := List.exists_cons_of_ne_nil h
  have hcount := State.countIn_update (s := s) (t := s.startHead) (p := p)
    (fun q hq => by rw [State.startHead_spindle_of_ne hlist hq]) (· == .ready)
  have hup : (s.startHead.spindle p).state = .spinningUp := by rw [State.startHead_spindle_same hlist]; rfl
  have hwait : s.startHead.waitList.length ≤ rest.length := by
    rw [congrArg State.waitList (State.startHead_eq hlist)]
    simp only
    split
    · exact List.length_filter_le _ _
    · exact Nat.le_refl _
  have hlength : s.waitList.length = rest.length + 1 := by rw [hlist, List.length_cons]
  have hnotReady : (SpindleState.spinningUp == SpindleState.ready).toNat = 0 := by decide
  rw [hup, hnotReady] at hcount
  unfold State.budgetWork
  omega

theorem State.enterSpinningDown_work {s : State} {p : Port} (h : (s.spindle p).state = .ready) :
    (s.enterSpinningDown p).budgetWork < s.budgetWork := by
  have hcount := State.countIn_update (s := s) (t := s.enterSpinningDown p) (p := p)
    (fun q hq => by rw [State.enterSpinningDown_spindle_of_ne _ hq]) (· == .ready)
  have hleft : (((s.enterSpinningDown p).spindle p).state == SpindleState.ready).toNat = 0 := by
    rw [State.enterSpinningDown_state]
    split
    · rfl
    · split <;> rfl
  have hready : ((s.spindle p).state == SpindleState.ready).toNat = 1 := by rw [h]; rfl
  have hwait := s.enterSpinningDown_waitList_length p
  rw [hleft, hready] at hcount
  unfold State.budgetWork
  omega

theorem State.budgetRounds_succ (n : Nat) (s : State) :
    s.budgetRounds (n + 1) =
      if s.canStart then s.startHead.budgetRounds n
      else s.evictChoice.elim s fun p => (s.enterSpinningDown p).budgetRounds n := by
  rw [State.budgetRounds]
  cases s.evictChoice <;> rfl

/-- Neither a start nor an eviction can act. -/
def State.BudgetSettled (s : State) : Prop := s.canStart = false ∧ s.evictChoice = none

theorem State.budgetRounds_settled (n : Nat) {s : State} (h : s.budgetWork < n) : (s.budgetRounds n).BudgetSettled := by
  induction n generalizing s with
  | zero => exact absurd h (Nat.not_lt_zero _)
  | succ n ih =>
    rw [State.budgetRounds_succ]
    cases hstart : s.canStart with
    | true => exact ih (Nat.lt_of_lt_of_le (State.startHead_work ((s.canStart_iff.mp hstart).1)) (Nat.lt_succ_iff.mp h))
    | false =>
      cases hevict : s.evictChoice with
      | none => exact ⟨hstart, hevict⟩
      | some p =>
        exact ih (Nat.lt_of_lt_of_le (State.enterSpinningDown_work (State.evictChoice_ready hevict)) (Nat.lt_succ_iff.mp h))

/-- Rounds beyond those that act change nothing. -/
theorem State.budgetRounds_enough {n m : Nat} {s : State} (hn : s.budgetWork < n) (hm : s.budgetWork < m) :
    s.budgetRounds n = s.budgetRounds m := by
  induction n generalizing s m with
  | zero => exact absurd hn (Nat.not_lt_zero _)
  | succ n ih =>
    obtain ⟨m, rfl⟩ : ∃ k, m = k + 1 := Nat.exists_eq_succ_of_ne_zero (Nat.ne_of_gt (Nat.zero_lt_of_lt hm))
    rw [State.budgetRounds_succ, State.budgetRounds_succ]
    cases hstart : s.canStart with
    | true =>
      have hless := State.startHead_work ((s.canStart_iff.mp hstart).1)
      exact ih (by omega) (by omega)
    | false =>
      cases hevict : s.evictChoice with
      | none => rfl
      | some p =>
        have hless := State.enterSpinningDown_work (State.evictChoice_ready hevict)
        exact ih (by omega) (by omega)

theorem State.budgetWork_lt (s : State) : s.budgetWork < s.waitList.length + 17 := by
  have hcount := s.countIn_le (· == .ready)
  unfold State.budgetWork
  omega

theorem State.evalBudget_eq {n : Nat} {s : State} (h : s.budgetWork < n) : s.evalBudget = s.budgetRounds n :=
  State.budgetRounds_enough s.budgetWork_lt h

theorem State.evalBudget_settled (s : State) : s.evalBudget.BudgetSettled := State.budgetRounds_settled _ s.budgetWork_lt

theorem State.evalBudget_start {s : State} (h : s.canStart = true) : s.evalBudget = s.startHead.evalBudget := by
  have hless := State.startHead_work ((s.canStart_iff.mp h).1)
  have hrounds := s.budgetRounds_succ (s.waitList.length + 16)
  rw [h, if_pos rfl] at hrounds
  exact hrounds.trans (State.evalBudget_eq (by have := s.budgetWork_lt; omega)).symm

theorem State.evalBudget_evict {s : State} {p : Port} (h : s.canStart = false) (hevict : s.evictChoice = some p) :
    s.evalBudget = (s.enterSpinningDown p).evalBudget := by
  have hless := State.enterSpinningDown_work (State.evictChoice_ready hevict)
  have hrounds := s.budgetRounds_succ (s.waitList.length + 16)
  rw [h, if_neg Bool.false_ne_true, hevict] at hrounds
  exact hrounds.trans (State.evalBudget_eq (by have := s.budgetWork_lt; omega)).symm

theorem State.evalBudget_stands {s : State} (h : s.BudgetSettled) : s.evalBudget = s := by
  have hrounds := s.budgetRounds_succ (s.waitList.length + 16)
  rw [h.1, if_neg Bool.false_ne_true, h.2] at hrounds
  exact hrounds

/-- R26: one more spindle in some states that the start leads into. -/
theorem State.startHead_countIn {s : State} {p : Port} {rest : List Port} (h : s.waitList = p :: rest)
    (hwait : (s.spindle p).state = .spinWait) {c : SpindleState → Bool} (hbefore : c .spinWait = false) (hafter : c .spinningUp = true) :
    s.startHead.countIn c = s.countIn c + 1 := by
  have hcount := State.countIn_update (s := s) (t := s.startHead) (p := p)
    (fun q hq => by rw [State.startHead_spindle_of_ne h hq]) c
  have hup : (s.startHead.spindle p).state = .spinningUp := by rw [State.startHead_spindle_same h]; rfl
  rw [hwait, hup, hbefore, hafter] at hcount
  exact hcount

/-- Settles O28: the evaluations by `State.evalBudget_start`, `_evict` and `_stands`, their end by `State.evalBudget_settled`, and the
start by `State.startHead_eq`. -/
theorem budgetSettles : Obligations.BudgetSettles := by
  unfold Obligations.BudgetSettles
  refine fun s => ⟨s.canStart_iff, s.evictChoice_iff, s.evictable_iff, State.evalBudget_start, fun p => State.evalBudget_evict,
    fun hstart hevict => State.evalBudget_stands ⟨hstart, hevict⟩, s.evalBudget_settled.1, s.evalBudget_settled.2,
    fun p rest hlist hexact htimers => ?_⟩
  obtain ⟨honce, hmem⟩ := hexact
  have hwait : (s.spindle p).state = .spinWait := (hmem p).mp (hlist ▸ List.mem_cons_self)
  obtain ⟨hup, hdown⟩ := htimers.resting (p := p) (by rw [hwait]; rfl)
  have hrecord : s.startHead.spindle p = { s.spindle p with
      state := .spinningUp, spinUpTimer := some (s.now + s.params.spinupTimeout * 1000000) } := by
    rw [State.startHead_spindle_same hlist, Spindle.enter_resting (by rw [hwait]; rfl) hup hdown]
  refine ⟨?frame, hrecord, fun q => State.startHead_spindle_of_ne hlist, fun hrun => ?spen, ?spinning, ?rising⟩
  case frame =>
    have hframe := State.startHead_eq hlist
    have hnot : p ∉ rest := (List.nodup_cons.mp (hlist ▸ honce)).1
    have hothers : rest.filter (· != p) = rest :=
      List.filter_eq_self.mpr fun q hq => bne_iff_ne.mpr fun (h : q = p) => hnot (h ▸ hq)
    rw [if_pos hwait, hothers] at hframe
    exact hframe
  case spen =>
    simp [State.spen, hrecord, hrun]
  case spinning =>
    rw [State.spinningCount_eq, State.spinningCount_eq, State.startHead_countIn hlist hwait rfl rfl]
  case rising =>
    rw [State.risingCount_eq, State.risingCount_eq, State.startHead_countIn hlist hwait rfl rfl]

end Sys2Proof.Machine
end

section
/-! The completion of a request (O39: R32, R33, R66, R88, R95 to R98, R145, R160), and a spindle's leaving of service, which completes
all its requests (O24: R39, R40, R97, R99, R147, R162). -/

-- One declaration after another: elaborated in parallel, these files ask for more memory than a check has.
set_option Elab.async false

namespace Sys2Proof.Machine

/-! R160: buffers returned together and one after another -/

theorem Request.withHolds_noBuffer_idem (r : Request) :
    (r.withHolds { r.holds with noBuffer := false }).holds.noBuffer = true → r.status = .active := by
  unfold Request.withHolds
  split
  · next h => exact fun _ => h
  · simp

theorem Request.afterReturn_add (n m : Nat) (r : Request) : (r.afterReturn n).afterReturn m = r.afterReturn (n + m) := by
  by_cases hactive : r.status = .active
  · rw [Request.afterReturn_active hactive, Request.afterReturn_active hactive, Request.afterReturn_active hactive]
  · by_cases hn : n ≠ 0 ∧ r.holds.noBuffer = true
    · have hsum : n + m ≠ 0 ∧ r.holds.noBuffer = true := ⟨by omega, hn.2⟩
      simp only [Request.afterReturn, if_pos hn, if_pos hsum]
      exact if_neg fun h => hactive (r.withHolds_noBuffer_idem h.2)
    · have hfirst : r.afterReturn n = r := if_neg hn
      rw [hfirst]
      by_cases hbuffer : r.holds.noBuffer = true
      · have hzero : n = 0 := Decidable.byContradiction fun h => hn ⟨h, hbuffer⟩
        rw [hzero, Nat.zero_add]
      · rw [Request.afterReturn, Request.afterReturn, if_neg fun h => hbuffer h.2, if_neg fun h => hbuffer h.2]

@[simp] theorem Request.afterReturn_zero (r : Request) : r.afterReturn 0 = r := if_neg fun h => h.1 rfl

theorem map_afterReturn_add (n m : Nat) (table : List Request) :
    (table.map (Request.afterReturn n)).map (Request.afterReturn m) = table.map (Request.afterReturn (n + m)) := by
  rw [List.map_map]
  exact List.map_congr_left fun r _ => r.afterReturn_add n m

theorem map_afterReturn_zero (table : List Request) : table.map (Request.afterReturn 0) = table := by
  simp [funext Request.afterReturn_zero]

theorem filter_afterReturn (n m : Nat) (t : Tag) (table : List Request) :
    ((table.map (Request.afterReturn n)).map (Request.afterReturn m)).filter (fun q => q.tag != t) =
      (table.filter fun q => q.tag != t).map (Request.afterReturn (n + m)) := by
  rw [map_afterReturn_add, List.filter_map]
  exact congrArg _ (List.filter_congr fun q _ => by simp)

/-- The buffers the channel holds for a request. -/
def State.engagedBuffers (s : State) (t : Tag) : Nat :=
  match s.chan with
  | some e => if e.tag = t then e.buffers else 0
  | none => 0

/-- R96 steps 4 and 5. -/
theorem State.disengage_eq (s : State) (t : Tag) :
    s.disengage t = { s with
      chan := if s.chan.any (fun e => e.tag == t) then none else s.chan
      free := s.free + s.engagedBuffers t
      table := s.table.map (Request.afterReturn (s.engagedBuffers t)) } := by
  unfold State.disengage State.engagedBuffers
  cases hchan : s.chan with
  | none => simp [map_afterReturn_zero, ← hchan]
  | some e =>
    by_cases ht : e.tag = t
    · simp [ht, State.closeChannel_eq hchan, State.channelClosed]
    · have hsame : s = { s with chan := some e } := by rw [← hchan]
      simpa [ht, map_afterReturn_zero] using hsame

/-! R88: BARRIER evaluated -/

theorem regradeBarriers_evaluated (p : Port) (table : List Request) : regradeBarriers p [] table = barriersEvaluated p table := by
  rw [regradeBarriers_eq, barriersEvaluated]
  congr 1
  funext k r
  split
  · next h => simp [barrierHold, h]
  · rfl

/-- What no hold reason changes of a request, the evaluation of BARRIER leaves. -/
theorem map_barriersEvaluated {β : Type} {g : Request → β} (hg : ∀ (r : Request) (h : Holds), g (r.withHolds h) = g r) (p : Port)
    (table : List Request) : (barriersEvaluated p table).map g = table.map g := by
  unfold barriersEvaluated
  refine List.ext_getElem (by simp) fun n h1 h2 => ?_
  simp only [List.getElem_map, List.getElem_zipWith]
  split <;> simp [hg]

theorem State.evalBarriers_eq (s : State) (p : Port) : s.evalBarriers p = { s with table := barriersEvaluated p s.table } := by
  rw [State.evalBarriers, regradeBarriers_evaluated]

/-! R95 to R98: the completion -/

/-- R72: a tag's request parts the table. -/
theorem State.table_parts {s : State} {t : Tag} {r : Request} (hd : s.TagsDistinct) (hr : s.request t = some r) :
    ∃ before after, s.table = before ++ r :: after ∧ s.table.filter (fun q => q.tag != t) = before ++ after := by
  have htag := State.request_tag hr
  obtain ⟨-, before, after, hparts, hbefore⟩ := List.find?_eq_some_iff_append.mp hr
  refine ⟨before, after, hparts, ?_⟩
  have hd' : ((before ++ r :: after).map (·.tag)).Nodup := hparts ▸ hd
  rw [List.map_append, List.map_cons] at hd'
  have hafter : ∀ q ∈ after, q.tag ≠ t := fun q hq heq =>
    (List.nodup_cons.mp (List.nodup_append.mp hd').2.1).1 (List.mem_map.mpr ⟨q, hq, heq.trans htag.symm⟩)
  have hkeepBefore : before.filter (fun q => q.tag != t) = before := List.filter_eq_self.mpr fun q hq => by simpa using hbefore q hq
  have hkeepAfter : after.filter (fun q => q.tag != t) = after := List.filter_eq_self.mpr fun q hq => by simpa using hafter q hq
  rw [hparts, List.filter_append, List.filter_cons_of_neg (by simp [htag]), hkeepBefore, hkeepAfter]

/-- R72: a spindle's request count, from the spindles of the table's requests. -/
theorem State.requestCount_eq_count (s : State) (p : Port) : s.requestCount p = (s.table.map (·.spindle)).count p := by
  rw [State.requestCount, State.requestsOf, ← List.countP_eq_length_filter, List.count, List.countP_map]
  rfl

theorem State.complete_free {s : State} {t : Tag} (h : s.request t = none) (o : Outcome) (cause : Option Cause) :
    s.complete t o cause = s := by
  simp [State.complete, h]

/-- The buffers that a completion returns. -/
def State.completionBuffers (s : State) (r : Request) : Nat := r.staged.length + s.engagedBuffers r.tag

/-- The state after a completion, but for the idle timer. -/
def State.completed (s : State) (r : Request) (o : Outcome) (cause : Option Cause) : State :=
  { s.clearOwner r.spindle r.tag with
    activity := toTail r.spindle s.activity
    table := barriersEvaluated r.spindle
      ((s.table.filter fun q => q.tag != r.tag).map (Request.afterReturn (s.completionBuffers r)))
    chan := if s.chan.any (fun e => e.tag == r.tag) then none else s.chan
    free := s.free + s.completionBuffers r
    stream := s.stream ++ [.done (doneRecord r o cause)] }

theorem State.complete_eq {s : State} {t : Tag} {r : Request} (h : s.request t = some r) (o : Outcome) (cause : Option Cause) :
    s.complete t o cause = (s.completed r o cause).startIdle r.spindle := by
  have htag := State.request_tag h
  subst htag
  simp only [State.complete, h]
  congr 1
  rw [State.returnBuffers_eq, State.disengage_eq, State.evalBarriers_eq]
  simp only [State.setTable, State.setStream, State.touchActivity, State.clearOwner, State.modSpindle, State.setSpindle,
    filter_afterReturn, Nat.add_assoc]
  rfl

section
variable {s : State} {r : Request} (o : Outcome) (cause : Option Cause)

theorem State.completed_spindle (q : Port) :
    (s.completed r o cause).spindle q =
      if r.spindle = q then { s.spindle q with arm := (s.spindle q).arm.withoutOwner r.tag } else s.spindle q :=
  State.spindle_modSpindle s r.spindle q fun x => { x with arm := x.arm.withoutOwner r.tag }

/-- R72: what remains of a spindle's requests after a completion. -/
theorem State.completed_requestCount (hd : s.TagsDistinct) (hr : s.request r.tag = some r) (p : Port) :
    (s.completed r o cause).requestCount p + (if r.spindle = p then 1 else 0) = s.requestCount p := by
  obtain ⟨before, after, hparts, hfilter⟩ := State.table_parts hd hr
  have hspindles : (s.completed r o cause).table.map (·.spindle) = (before ++ after).map (·.spindle) := by
    rw [State.completed, map_barriersEvaluated (fun q h => by simp), hfilter, List.map_map]
    exact List.map_congr_left fun q _ => by simp
  rw [State.requestCount_eq_count, State.requestCount_eq_count, hspindles, hparts]
  simp only [List.map_append, List.map_cons, List.count_append, List.count_cons, beq_iff_eq]
  omega

end

theorem State.startIdle_changes (s : State) (p : Port) :
    s.startIdle p = { s with spindles := (s.startIdle p).spindles } ∧
    (s.startIdle p).spindle p = { s.spindle p with
      idleTimer :=
        if (s.spindle p).state = .ready ∧ (s.spindle p).pinned = false ∧ s.requestCount p = 0 ∧ s.params.idleTimeout ≠ 0 then
          some (s.now + s.params.idleTimeout * 1000000)
        else (s.spindle p).idleTimer } ∧
    ∀ q : Port, q ≠ p → (s.startIdle p).spindle q = s.spindle q := by
  unfold State.startIdle
  split
  · exact s.modSpindle_changes p _
  · exact ⟨rfl, rfl, fun _ _ => rfl⟩

theorem Arm.withoutOwner_eq (t : Tag) (a : Arm) :
    a.withoutOwner t = (match a with
      | .seeking c owner d => .seeking c (if owner = some t then none else owner) d
      | arm => arm) := by
  cases a <;> rfl

/-- R96, R66, R33: the records of the spindle of a completed request. -/
theorem State.complete_spindle_same {s : State} {t : Tag} {r : Request} (h : s.request t = some r) (hd : s.TagsDistinct) (o : Outcome)
    (cause : Option Cause) :
    (s.complete t o cause).spindle r.spindle = { s.spindle r.spindle with
      arm := (s.spindle r.spindle).arm.withoutOwner t
      idleTimer :=
        if (s.spindle r.spindle).state = .ready ∧ (s.spindle r.spindle).pinned = false ∧
            s.requestCount r.spindle = 1 ∧ s.params.idleTimeout ≠ 0 then
          some (s.now + s.params.idleTimeout * 1000000)
        else (s.spindle r.spindle).idleTimer } := by
  have htag := State.request_tag h
  subst htag
  have hcount := State.completed_requestCount o cause hd h r.spindle
  rw [if_pos rfl] at hcount
  obtain ⟨-, hrecord, -⟩ := (s.completed r o cause).startIdle_changes r.spindle
  rw [State.complete_eq h, hrecord, State.completed_spindle, if_pos rfl]
  have hzero : (s.completed r o cause).requestCount r.spindle = 0 ↔ s.requestCount r.spindle = 1 := by omega
  simp only [hzero]
  rfl

theorem State.complete_spindle_of_ne {s : State} {t : Tag} {r : Request} (h : s.request t = some r) (o : Outcome)
    (cause : Option Cause) {q : Port} (hq : q ≠ r.spindle) : (s.complete t o cause).spindle q = s.spindle q := by
  obtain ⟨-, -, hother⟩ := (s.completed r o cause).startIdle_changes r.spindle
  rw [State.complete_eq h, hother q hq, State.completed_spindle, if_neg hq.symm]

/-- R96: what a completion changes beside the spindle's records. -/
theorem State.complete_frame_eq {s : State} {t : Tag} {r : Request} (h : s.request t = some r) (o : Outcome) (cause : Option Cause) :
    s.complete t o cause = { s with
      spindles := (s.complete t o cause).spindles
      activity := toTail r.spindle s.activity
      table := barriersEvaluated r.spindle
        ((s.table.filter fun q => q.tag != t).map (Request.afterReturn (s.completionBuffers r)))
      chan := if s.chan.any (fun e => e.tag == t) then none else s.chan
      free := s.free + s.completionBuffers r
      stream := s.stream ++ [.done (doneRecord r o cause)] } := by
  have htag := State.request_tag h
  subst htag
  obtain ⟨hframe, -, -⟩ := (s.completed r o cause).startIdle_changes r.spindle
  rw [State.complete_eq h, hframe]
  rfl

theorem Outcome.failing_iff (o : Outcome) :
    o.failing = true ↔ o = .dataCheck ∨ o = .sectorNotFound ∨ o = .positionError ∨ o = .verifyMismatch ∨ o = .writeProtected := by
  cases o <;> simp [Outcome.failing]

/-- Settles O39: `State.complete_frame_eq` and the records of the request's spindle. -/
theorem completion : Obligations.Completion := by
  unfold Obligations.Completion
  refine fun s t o cause => ⟨fun hnone => State.complete_free hnone o cause, fun r v returned hr hd hv hreturned => ?_⟩
  subst hv
  have hbuffers : returned = s.completionBuffers r := by
    cases hchan : s.chan <;> simp [hreturned, State.completionBuffers, State.engagedBuffers, State.request_tag hr, hchan]
  refine ⟨?frame, ?record, fun q hq => State.complete_spindle_of_ne hr o cause hq⟩
  case frame =>
    rw [hbuffers]
    refine (State.complete_frame_eq hr o cause).trans ?_
    rw [doneRecord_eq]
    simp only [Outcome.failing_iff]
    rfl
  case record =>
    rw [State.complete_spindle_same hr hd, Arm.withoutOwner_eq] <;> rfl

/-! R99: the completion of all the requests of a spindle -/

@[simp] theorem Request.afterReturn_unjudged (n : Nat) (r : Request) : (r.afterReturn n).unjudged = r.unjudged := by
  unfold Request.afterReturn
  split <;> simp

/-- Two tables of the same requests but for their states and hold reasons. -/
def SameRequests (table other : List Request) : Prop := table.map Request.unjudged = other.map Request.unjudged

theorem SameRequests.map {β : Type} {table other : List Request} (h : SameRequests table other) {g : Request → β}
    (hg : ∀ r : Request, g r.unjudged = g r) : table.map g = other.map g := by
  have hmap := congrArg (List.map g) h
  simpa [Function.comp_def, hg] using hmap

theorem State.request_unjudged {s u : State} (h : SameRequests s.table u.table) (t : Tag) :
    (s.request t).map Request.unjudged = (u.request t).map Request.unjudged := by
  have hfind (v : State) : (v.request t).map Request.unjudged = (v.table.map Request.unjudged).find? fun r => r.tag == t := by
    rw [State.request, List.find?_map]
    rfl
  rw [hfind, hfind, h]

/-- R96 step 6: the table after a completion, but for the states and hold reasons of the requests that remain. -/
theorem State.complete_requests {s : State} {t : Tag} {r : Request} (h : s.request t = some r) (o : Outcome) (cause : Option Cause) :
    SameRequests (s.complete t o cause).table (s.table.filter fun q => q.tag != t) := by
  rw [SameRequests, congrArg State.table (State.complete_frame_eq h o cause), map_barriersEvaluated (fun q h => by simp), List.map_map]
  exact List.map_congr_left fun q _ => by simp

theorem State.complete_admissionList (s : State) (t : Tag) (o : Outcome) (cause : Option Cause) :
    (s.complete t o cause).admissionList = s.admissionList.filter (· != t) := by
  cases h : s.request t with
  | none =>
    rw [State.complete_free h, State.admissionList, List.filter_map, List.filter_eq_self.mpr fun q hq => ?_]
    exact List.find?_eq_none.mp h q hq |> fun hq => by simpa using hq
  | some r =>
    rw [State.admissionList, (State.complete_requests h o cause).map (g := (·.tag)) fun _ => rfl, State.admissionList, List.filter_map]
    rfl

theorem State.complete_tagsDistinct {s : State} (hd : s.TagsDistinct) (t : Tag) (o : Outcome) (cause : Option Cause) :
    (s.complete t o cause).TagsDistinct := by
  rw [State.TagsDistinct, State.complete_admissionList]
  exact hd.filter _

theorem State.request_of_mem {s : State} (hd : s.TagsDistinct) {r : Request} (hr : r ∈ s.table) : s.request r.tag = some r := by
  cases h : s.request r.tag with
  | none => simpa using List.find?_eq_none.mp h r hr
  | some q => rw [State.eq_request_of_tag hd h hr rfl]

theorem State.request_filter_ne {t g : Tag} (h : g ≠ t) (s : State) :
    ({ s with table := s.table.filter fun q => q.tag != t } : State).request g = s.request g := by
  rw [State.request, List.find?_filter, State.request]
  refine congrArg (List.find? · s.table) (funext fun q => ?_)
  by_cases hq : q.tag = g
  · simp [hq, h]
  · simp [hq]

/-- Requests of other spindles, which an evaluation of BARRIER leaves. -/
theorem filter_regradeBarriers (p : Port) (older table : List Request) :
    (regradeBarriers p older table).filter (fun q => q.spindle != p) = table.filter fun q => q.spindle != p := by
  induction table generalizing older with
  | nil => rfl
  | cons r rest ih =>
    rw [regradeBarriers, List.filter_cons, List.filter_cons, ih]
    by_cases hp : r.spindle = p
    · simp [hp, Request.evaluate_eq]
    · simp [hp]

/-- What the completion of the requests of one spindle, one after another, starts from. -/
structure State.Leaving (w : State) (p : Port) (l : List Request) : Prop where
  distinct : w.TagsDistinct
  once : (l.map (·.tag)).Nodup
  found : ∀ r ∈ l, (w.request r.tag).map Request.unjudged = some r.unjudged
  all : ∀ q ∈ w.table, q.spindle = p ↔ q.tag ∈ l.map (·.tag)
  disengaged : ∀ e, w.chan = some e → e.tag ∉ l.map (·.tag)
  notReady : (w.spindle p).state ≠ .ready
  armless : (w.spindle p).arm = .unknown

section
variable {w : State} {p : Port} {r : Request} {l : List Request} {o : Outcome} {cause : Option Cause}

theorem State.Leaving.head (h : w.Leaving p (r :: l)) : ∃ q, w.request r.tag = some q ∧ q.unjudged = r.unjudged ∧ q.spindle = p := by
  obtain ⟨q, hq, hsame⟩ := Option.map_eq_some_iff.mp (h.found r List.mem_cons_self)
  have htag : q.tag = r.tag := State.request_tag hq
  exact ⟨q, hq, hsame, (h.all q (State.request_mem hq)).mpr (by simp [htag])⟩

/-- R96: a completion in the course of a spindle's leaving of service. -/
theorem State.Leaving.complete_eq (h : w.Leaving p (r :: l)) (ho : o.failing = false) :
    w.complete r.tag o cause = { w with
      activity := toTail p w.activity
      table := barriersEvaluated p ((w.table.filter fun q => q.tag != r.tag).map (Request.afterReturn r.staged.length))
      free := w.free + r.staged.length
      stream := w.stream ++ [doneOf r o cause none] } := by
  obtain ⟨q, hq, hsame, hp⟩ := h.head
  have hchan : w.chan.any (fun e => e.tag == r.tag) = false := by
    cases hchan : w.chan with
    | none => rfl
    | some e => simpa using fun heq => h.disengaged e hchan (by simp [heq])
  have hstaged : q.staged.length = r.staged.length := by
    change q.unjudged.staged.length = r.unjudged.staged.length
    rw [hsame]
  have hbuffers : w.completionBuffers q = r.staged.length := by
    rw [State.completionBuffers, hstaged, State.engagedBuffers, State.request_tag hq]
    cases hw : w.chan with
    | none => rfl
    | some e =>
      have htag : e.tag ≠ r.tag := fun heq => h.disengaged e hw (by simp [heq])
      simp [htag]
  have hdone : doneOf q o cause none = doneOf r o cause none := by
    change doneOf q.unjudged o cause none = doneOf r.unjudged o cause none
    rw [hsame]
  have hframe := State.complete_frame_eq hq o cause
  have hspindles : (w.complete r.tag o cause).spindles = w.spindles := State.spindles_ext fun j => by
    by_cases hj : j = p
    · subst hj
      have hrecord := State.complete_spindle_same hq h.distinct o cause
      rw [hp] at hrecord
      rw [hrecord, h.armless, if_neg fun hready => h.notReady hready.1]
      cases hr : w.spindle j
      simp only [Arm.withoutOwner]
      have harm := h.armless
      rw [hr] at harm
      simp only at harm
      rw [harm]
    · exact State.complete_spindle_of_ne hq o cause (by rwa [hp])
  rw [hspindles, hchan, if_neg Bool.false_ne_true, hbuffers, hp, doneRecord_eq, ho, if_neg Bool.false_ne_true, hdone] at hframe
  exact hframe

theorem State.Leaving.tail (h : w.Leaving p (r :: l)) (ho : o.failing = false) : (w.complete r.tag o cause).Leaving p l := by
  obtain ⟨q, hq, hsame, hp⟩ := h.head
  obtain ⟨hnot, honce⟩ := List.nodup_cons.mp h.once
  have hframe := h.complete_eq (cause := cause) ho
  have hrequests := State.complete_requests hq o cause
  refine ⟨State.complete_tagsDistinct h.distinct _ _ _, honce, fun x hx => ?_, fun x hx => ?_, fun e he => ?_, ?_, ?_⟩
  · have hne : x.tag ≠ r.tag := fun heq => hnot (List.mem_map.mpr ⟨x, hx, heq⟩)
    rw [State.request_unjudged (u := { w with table := w.table.filter fun q => q.tag != r.tag }) hrequests,
      ← h.found x (List.mem_cons_of_mem _ hx)]
    refine congrArg _ (State.request_filter_ne hne w)
  · have hmem : (x.tag, x.spindle) ∈ (w.table.filter fun q => q.tag != r.tag).map fun q => (q.tag, q.spindle) := by
      rw [← hrequests.map (g := fun q => (q.tag, q.spindle)) fun _ => rfl]
      exact List.mem_map_of_mem hx
    obtain ⟨y, hy, hyx⟩ := List.mem_map.mp hmem
    obtain ⟨hyw, hyr⟩ := List.mem_filter.mp hy
    obtain ⟨htag, hspindle⟩ := Prod.mk.inj hyx
    have hall := h.all y hyw
    have hne : y.tag ≠ r.tag := by simpa using hyr
    rw [List.map_cons, List.mem_cons, or_iff_right hne] at hall
    rwa [← htag, ← hspindle]
  · rw [congrArg State.chan hframe] at he
    exact fun hmem => h.disengaged e he (List.mem_cons_of_mem _ hmem)
  · rw [State.spindle_congr (congrArg State.spindles hframe)]
    exact h.notReady
  · rw [State.spindle_congr (congrArg State.spindles hframe)]
    exact h.armless

/-- R99: the requests of a spindle that leaves service, completed one after another. -/
theorem State.Leaving.complete_all (h : w.Leaving p l) (ho : o.failing = false) :
    (l.map (·.tag)).foldl (fun u t => u.complete t o cause) w = { w with
      activity := if l = [] then w.activity else toTail p w.activity
      table := (w.table.filter fun q => q.spindle != p).map (Request.afterReturn (l.map fun r => r.staged.length).sum)
      free := w.free + (l.map fun r => r.staged.length).sum
      stream := w.stream ++ l.map fun r => doneOf r o cause none } := by
  induction l generalizing w with
  | nil =>
    have hothers : w.table.filter (fun q => q.spindle != p) = w.table :=
      List.filter_eq_self.mpr fun q hq => by simpa using mt (h.all q hq).mp (by simp)
    simp [hothers, map_afterReturn_zero]
  | cons r l ih =>
    have hframe := h.complete_eq (cause := cause) ho
    have htable : ((barriersEvaluated p ((w.table.filter fun q => q.tag != r.tag).map (Request.afterReturn r.staged.length))).filter
          fun q => q.spindle != p).map (Request.afterReturn (l.map fun r => r.staged.length).sum) =
        (w.table.filter fun q => q.spindle != p).map (Request.afterReturn (r.staged.length + (l.map fun r => r.staged.length).sum)) := by
      rw [← regradeBarriers_evaluated, filter_regradeBarriers, List.filter_map, map_afterReturn_add, List.filter_filter]
      refine congrArg _ (List.filter_congr fun q hq => ?_)
      by_cases hp : q.spindle = p
      · simp [hp]
      · have hne : q.tag ≠ r.tag := fun heq => hp ((h.all q hq).mpr (by simp [heq]))
        simp [hp, hne]
    have htail : toTail p (toTail p w.activity) = toTail p w.activity := by
      simp [toTail, List.filter_append, List.filter_filter]
    rw [List.map_cons, List.foldl_cons, ih (h.tail ho), hframe]
    simp only [htable, htail, ite_self, List.map_cons, List.sum_cons, Nat.add_assoc, List.append_assoc, List.singleton_append,
      reduceCtorEq, if_false]

end

end Sys2Proof.Machine
end

section
/-! A spindle's leaving of service (O24: R39, R40, R97, R99, R147, R162): FAULTED with a cause, or ABSENT. -/

-- One declaration after another: elaborated in parallel, these files ask for more memory than a check has.
set_option Elab.async false

namespace Sys2Proof.Machine

/-! The three steps of R39 and R40: the state entered, the channel aborted, the requests completed -/

/-- R39, R40: the state entered, the flags, the timers and the arm given up. -/
def State.outOfService (s : State) (p : Port) (st : SpindleState) (cause : Option Cause) : State :=
  (s.modSpindle p fun r => { r with cause := cause, pinned := false, respin := false, idleTimer := none }).enterState p st

/-- R39, R40: a spindle leaves service. -/
def State.leaveService (s : State) (p : Port) (st : SpindleState) (o : Outcome) (cause : Option Cause) : State :=
  ((s.outOfService p st cause).abortChannel p).completeAll p o cause

theorem State.enterFaulted_eq (s : State) (p : Port) (c : Cause) :
    s.enterFaulted p c = s.leaveService p .faulted .spindleFault (some c) := rfl

theorem State.enterAbsent_eq (s : State) (p : Port) : s.enterAbsent p = s.leaveService p .absent .spindleAbsent none := rfl

/-- R39, R40: the states out of service, each with its fault cause. -/
def OutOfService (st : SpindleState) (o : Outcome) (cause : Option Cause) : Prop :=
  (st = .faulted ∧ o = .spindleFault ∧ cause.isSome = true) ∨ (st = .absent ∧ o = .spindleAbsent ∧ cause = none)

section
variable {s : State} {p : Port} {st : SpindleState} {o : Outcome} {cause : Option Cause} (h : OutOfService st o cause)
include h

theorem OutOfService.resting : st ≠ .ready ∧ st ≠ .spinWait ∧ st ≠ .spinningUp ∧ st ≠ .spinningDown ∧ st.spinning = false := by
  rcases h with ⟨rfl, -, -⟩ | ⟨rfl, -, -⟩ <;> decide

theorem OutOfService.posted : (if st = .faulted then cause else none) = cause := by
  rcases h with ⟨rfl, -, -⟩ | ⟨rfl, -, rfl⟩ <;> simp

theorem OutOfService.notFailing : o.failing = false := by
  rcases h with ⟨-, rfl, -⟩ | ⟨-, rfl, -⟩ <;> rfl

theorem State.outOfService_eq : s.outOfService p st cause = { s with
    spindles := (s.outOfService p st cause).spindles
    waitList := if (s.spindle p).state = .spinWait then s.waitList.filter (· != p) else s.waitList
    table := s.table.map (Request.spindleEvaluated p true)
    events := stateChangePosted p st cause s.events } := by
  obtain ⟨hready, hwait, -, -, -⟩ := h.resting
  have hframe := s.modSpindle_enterState_eq (p := p)
    (f := fun r => { r with cause := cause, pinned := false, respin := false, idleTimer := none }) rfl hready
  simp only [hwait, ne_eq, not_false_eq_true, and_true, h.posted] at hframe
  exact hframe

theorem State.outOfService_spindle_same : (s.outOfService p st cause).spindle p = { s.spindle p with
    state := st, cause := cause, pinned := false, respin := false, spinUpTimer := none, spinDownTimer := none
    idleTimer := none, arm := if (s.spindle p).state = .ready then .unknown else (s.spindle p).arm
    tracker := if (s.spindle p).state.spinning then ⟨false, 0, 0, none, none⟩ else (s.spindle p).tracker } := by
  obtain ⟨hready, -, hup, hdown, hspinning⟩ := h.resting
  rw [State.outOfService, State.enterState_spindle_same, State.spindle_modSpindle_same]
  simp [Spindle.enter, hready, hup, hdown, hspinning]

end

theorem State.outOfService_spindle_of_ne (s : State) {p q : Port} (st : SpindleState) (cause : Option Cause) (hq : q ≠ p) :
    (s.outOfService p st cause).spindle q = s.spindle q := by
  rw [State.outOfService, State.enterState_spindle_of_ne _ _ hq, State.spindle_modSpindle, if_neg hq.symm]

/-! R147: the abort -/

/-- A request without its hold reasons, with whether it is ACTIVE. -/
def Request.key (r : Request) : Request × Bool := (r.unjudged, r.status == .active)

@[simp] theorem Request.withHolds_key (r : Request) (h : Holds) : (r.withHolds h).key = r.key := by
  have hactive : ((r.withHolds h).status == .active) = (r.status == .active) :=
    Bool.eq_iff_iff.mpr (by simp)
  rw [Request.key, Request.key, Request.withHolds_unjudged, hactive]

@[simp] theorem Request.spindleEvaluated_key (p : Port) (held : Bool) (r : Request) : (r.spindleEvaluated p held).key = r.key := by
  unfold Request.spindleEvaluated
  split <;> simp

@[simp] theorem Request.afterReturn_key (n : Nat) (r : Request) : (r.afterReturn n).key = r.key := by
  unfold Request.afterReturn
  split <;> simp

/-- R133: the counting of a sector, as a change of one request. -/
def State.sectorCounted (s : State) (t : Tag) (r : Request) : Request :=
  if r.tag = t then
    { r with
      done := r.done + 1
      next := s.addressAfter r.spindle r.next
      budget := if r.flags.noRetry then 0 else s.params.retryLimit }
  else r

theorem State.withSectorDone_eq (s : State) (t : Tag) :
    s.withSectorDone t = { s with table := s.table.map (s.sectorCounted t) } := rfl

theorem State.sectorCounted_key {s u : State} {t : Tag} (hparams : u.params = s.params)
    (hgeometry : ∀ q, (u.spindle q).geometry = (s.spindle q).geometry) {r q : Request} (h : r.key = q.key) :
    (u.sectorCounted t r).key = (s.sectorCounted t q).key := by
  have hsplit (v : State) (x : Request) : (v.sectorCounted t x).key = ((v.sectorCounted t x.unjudged).unjudged, x.key.2) := by
    unfold State.sectorCounted Request.key Request.unjudged
    simp only
    split <;> rfl
  have hcounted : u.sectorCounted t = s.sectorCounted t := by
    funext x
    simp only [State.sectorCounted, State.addressAfter, hparams, hgeometry]
  have hbare : r.unjudged = q.unjudged := congrArg Prod.fst h
  rw [hsplit, hsplit, hcounted, h, hbare]

/-- R13, R97: the request of a format slot written whole on the spindle counts it, unless it is the last. -/
def State.wholeSlotCounted (s : State) (p : Port) : State :=
  if s.chan.any (fun e => e.spindle == p) then s.countWholeSlot else s

theorem State.countWholeSlot_eq {s : State} {e : Engagement} (h : s.chan = some e) :
    s.countWholeSlot =
      if e.phase = .formatWrite false ∧ (s.request e.tag).any (fun r => r.done + 1 < r.count) = true then s.withSectorDone e.tag
      else s := by
  simp only [State.countWholeSlot, h, State.countSector_eq]
  rcases hphase : e.phase with _ | _ | _ | _ | _ | _ | (_ | _) <;> simp

theorem State.tearSector_congr {s u : State} (hchan : u.chan = s.chan) (hmedia : u.media = s.media) (huses : u.freeUses = s.freeUses)
    (hfill : ∀ e, u.engagedFill e = s.engagedFill e) :
    u.tearSector.media = s.tearSector.media ∧ u.tearSector.freeUses = s.tearSector.freeUses := by
  unfold State.tearSector
  rw [hchan]
  split
  · exact ⟨hmedia, huses⟩
  · split <;> simp [hmedia, huses, hfill]

theorem State.tearSector_eq (s : State) :
    s.tearSector = { s with media := s.tearSector.media, freeUses := s.tearSector.freeUses } := by
  unfold State.tearSector
  split
  · rfl
  · split <;> rfl

theorem State.countWholeSlot_table_eq (s : State) : s.countWholeSlot = { s with table := s.countWholeSlot.table } := by
  unfold State.countWholeSlot
  split
  · rfl
  · split
    · split <;> rfl
    · rfl

theorem State.writeGate_engaged {s : State} {e : Engagement} (h : s.chan = some e) :
    s.writeGate = none ∨ s.writeGate = some e.spindle := by
  unfold State.writeGate
  rw [h]
  simp only
  split <;> simp

/-- What of the state before an abort the state after it has. -/
structure State.Aborts (s u v : State) (p : Port) (returned : Nat) : Prop where
  frame : v = { u with
    media := v.media, freeUses := v.freeUses, chan := if s.chan.any (fun e => e.spindle == p) then none else s.chan
    free := s.free + returned, table := v.table }
  keys : v.table.map Request.key = (s.wholeSlotCounted p).table.map Request.key
  others : v.table.filter (fun q => q.spindle != p) =
    (s.table.filter fun q => q.spindle != p).map (Request.afterReturn returned)
  closed : s.writeGate ≠ some p → v.media = s.media ∧ v.freeUses = s.freeUses
  torn : s.writeGate = some p → v.media = s.tearSector.media ∧ v.freeUses = s.tearSector.freeUses

/-- The buffers of the channel engaged on a spindle. -/
def State.channelBuffersOn (s : State) (p : Port) : Nat :=
  match s.chan with
  | some e => if e.spindle = p then e.buffers else 0
  | none => 0

theorem State.writeGate_spindle {s : State} {p : Port} (h : s.writeGate = some p) : s.chan.any (fun e => e.spindle == p) = true := by
  unfold State.writeGate at h
  split at h
  · cases h
  · next e he =>
    have hspindle : some e.spindle = some p := by
      split at h
      · exact h
      · exact h
      · cases h
    simpa [he] using hspindle

theorem map_spindleEvaluated_key (p : Port) (held : Bool) (table : List Request) :
    (table.map (Request.spindleEvaluated p held)).map Request.key = table.map Request.key := by
  rw [List.map_map]
  exact List.map_congr_left fun r _ => Request.spindleEvaluated_key _ _ r

theorem filter_spindleEvaluated (p : Port) (held : Bool) (table : List Request) :
    (table.map (Request.spindleEvaluated p held)).filter (fun q => q.spindle != p) = table.filter fun q => q.spindle != p := by
  induction table with
  | nil => rfl
  | cons r rest ih =>
    rw [List.map_cons, List.filter_cons, List.filter_cons, ih]
    by_cases hp : r.spindle = p <;> simp [Request.spindleEvaluated, hp]

theorem filter_map_afterReturn (p : Port) (n : Nat) (table : List Request) :
    (table.map (Request.afterReturn n)).filter (fun q => q.spindle != p) =
      (table.filter fun q => q.spindle != p).map (Request.afterReturn n) := by
  rw [List.filter_map]
  exact congrArg _ (List.filter_congr fun q _ => by simp)

/-- A sector counted for a request of a spindle leaves the requests of the others. -/
theorem filter_sectorCounted {s : State} {p : Port} {t : Tag} {table : List Request} (h : ∀ q ∈ table, q.tag = t → q.spindle = p) :
    (table.map (s.sectorCounted t)).filter (fun q => q.spindle != p) = table.filter fun q => q.spindle != p := by
  induction table with
  | nil => rfl
  | cons r rest ih =>
    rw [List.map_cons, List.filter_cons, List.filter_cons, ih fun q hq => h q (List.mem_cons_of_mem _ hq)]
    by_cases ht : r.tag = t
    · simp [State.sectorCounted, ht, h r List.mem_cons_self ht]
    · simp [State.sectorCounted, ht]

section
variable {s : State} {p : Port} {st : SpindleState} {o : Outcome} {cause : Option Cause} (h : OutOfService st o cause)
include h

theorem State.outOfService_request (t : Tag) :
    ((s.outOfService p st cause).request t).map Request.unjudged = (s.request t).map Request.unjudged := by
  refine State.request_unjudged ?_ t
  rw [congrArg State.table (State.outOfService_eq h), SameRequests, List.map_map]
  exact List.map_congr_left fun r _ => Request.spindleEvaluated_unjudged _ _ r

theorem State.outOfService_geometry (q : Port) :
    ((s.outOfService p st cause).spindle q).geometry = (s.spindle q).geometry := by
  by_cases hq : q = p
  · rw [hq, State.outOfService_spindle_same h]
  · rw [State.outOfService_spindle_of_ne _ _ _ hq]

theorem State.outOfService_engagedFill (e : Engagement) : (s.outOfService p st cause).engagedFill e = s.engagedFill e := by
  have hfill (v : State) : v.engagedFill e = ((v.request e.tag).map Request.unjudged).bind (·.fill) := by
    rw [State.engagedFill, Option.bind_map]
    rfl
  rw [hfill, hfill, State.outOfService_request h]

/-- R147: the abort of the channel in a spindle's leaving of service. -/
theorem State.outOfService_aborts (hexact : s.EngagementExact) :
    s.Aborts (s.outOfService p st cause) ((s.outOfService p st cause).abortChannel p) p (s.channelBuffersOn p) := by
  obtain ⟨u, hu⟩ : ∃ u, u = s.outOfService p st cause := ⟨_, rfl⟩
  have hframe := State.outOfService_eq (s := s) (p := p) h
  have hrequest := State.outOfService_request (s := s) (p := p) h
  have hgeometry := State.outOfService_geometry (s := s) (p := p) h
  have hfill := State.outOfService_engagedFill (s := s) (p := p) h
  rw [← hu] at hframe hrequest hgeometry hfill ⊢
  have hchan : u.chan = s.chan := by rw [hframe]
  have htable : u.table = s.table.map (Request.spindleEvaluated p true) := by rw [hframe]
  have hmedia : u.media = s.media ∧ u.freeUses = s.freeUses := by rw [hframe]; exact ⟨rfl, rfl⟩
  have htear := State.tearSector_congr hchan hmedia.1 hmedia.2 hfill
  by_cases hengaged : s.chan.any (fun e => e.spindle == p) = true
  case neg =>
    have hstands : u.abortChannel p = u := by
      unfold State.abortChannel
      rw [hchan]
      cases hs : s.chan with
      | none => rfl
      | some e => exact if_neg (by simpa [hs] using hengaged)
    have hzero : s.channelBuffersOn p = 0 := by
      unfold State.channelBuffersOn
      cases hs : s.chan with
      | none => rfl
      | some e => exact if_neg (by simpa [hs] using hengaged)
    rw [hstands, hzero]
    refine ⟨?_, ?_, ?_, fun _ => hmedia, fun hgate => absurd (State.writeGate_spindle hgate) hengaged⟩
    · rw [if_neg hengaged, hframe]
      rfl
    · rw [State.wholeSlotCounted, if_neg hengaged, htable, map_spindleEvaluated_key]
    · rw [htable, filter_spindleEvaluated, map_afterReturn_zero]
  case pos =>
    obtain ⟨e, he, hp⟩ : ∃ e, s.chan = some e ∧ e.spindle = p := by simpa [Option.any_eq_true] using hengaged
    obtain ⟨hd, -, hselected⟩ := hexact
    obtain ⟨r, hr, hrtag, hrspindle⟩ := hselected e he
    have honSpindle : ∀ q ∈ s.table, q.tag = e.tag → q.spindle = p := fun q hq ht => by
      rw [eq_of_tag_eq hd hq hr (ht.trans hrtag.symm), hrspindle, hp]
    obtain ⟨w, hw⟩ : ∃ w, w = u.tearSector := ⟨_, rfl⟩
    have hwframe : w = { u with media := w.media, freeUses := w.freeUses } := hw ▸ u.tearSector_eq
    have hwchan : w.chan = some e := by rw [hwframe]; exact hchan.trans he
    have habort : u.abortChannel p = w.countWholeSlot.channelClosed e := by
      have hcounted : w.countWholeSlot.chan = some e := by simpa using hwchan
      rw [State.abortChannel, hchan, he]
      simp only [hp, if_true]
      rw [← hw, State.closeChannel_eq hcounted]
    have hany : (w.request e.tag).any (fun r => decide (r.done + 1 < r.count)) =
        (s.request e.tag).any fun r => decide (r.done + 1 < r.count) := by
      have hwrequest : w.request e.tag = u.request e.tag := State.request_congr (by rw [hwframe]) e.tag
      have hbare (v : State) : (v.request e.tag).any (fun r => decide (r.done + 1 < r.count)) =
          ((v.request e.tag).map Request.unjudged).any fun r => decide (r.done + 1 < r.count) := by
        cases v.request e.tag <;> rfl
      rw [hbare, hbare s, hwrequest, hrequest]
    have hcountedTable : w.countWholeSlot.table.map Request.key = (s.wholeSlotCounted p).table.map Request.key ∧
        w.countWholeSlot.table.filter (fun q => q.spindle != p) = s.table.filter fun q => q.spindle != p := by
      have hwtable : w.table = s.table.map (Request.spindleEvaluated p true) := by rw [hwframe]; exact htable
      have honSpindle' : ∀ q ∈ w.table, q.tag = e.tag → q.spindle = p := by
        intro q hq ht
        rw [hwtable] at hq
        obtain ⟨x, hx, rfl⟩ := List.mem_map.mp hq
        have hbare := Request.spindleEvaluated_unjudged p true x
        have htag : (x.spindleEvaluated p true).tag = x.tag := show (Request.unjudged _).tag = _ by rw [hbare]; rfl
        have hspindle : (x.spindleEvaluated p true).spindle = x.spindle := show (Request.unjudged _).spindle = _ by rw [hbare]; rfl
        rw [hspindle]
        exact honSpindle x hx (htag.symm.trans ht)
      rw [State.wholeSlotCounted, if_pos hengaged, State.countWholeSlot_eq hwchan, State.countWholeSlot_eq he, hany]
      split
      · rw [State.withSectorDone_eq, State.withSectorDone_eq]
        refine ⟨?_, ?_⟩
        · simp only [hwtable, List.map_map]
          refine List.map_congr_left fun q _ => ?_
          have hwparams : w.params = s.params := by rw [hwframe, hframe]
          have hwgeometry (j : Port) : (w.spindle j).geometry = (s.spindle j).geometry := by
            rw [State.spindle_congr (t := w) (s := u) (by rw [hwframe]), hgeometry]
          exact State.sectorCounted_key hwparams hwgeometry (by simp)
        · rw [filter_sectorCounted honSpindle', hwtable, filter_spindleEvaluated]
      · rw [hwtable, map_spindleEvaluated_key, filter_spindleEvaluated]
        exact ⟨rfl, rfl⟩
    have hbuffers : s.channelBuffersOn p = e.buffers := by simp [State.channelBuffersOn, he, hp]
    rw [habort, hbuffers]
    obtain ⟨hkeys, hothers⟩ := hcountedTable
    have hcounted : (w.countWholeSlot.channelClosed e).media = u.tearSector.media ∧
        (w.countWholeSlot.channelClosed e).freeUses = u.tearSector.freeUses := by
      rw [← hw, w.countWholeSlot_table_eq]
      exact ⟨rfl, rfl⟩
    refine ⟨?_, ?_, ?_, fun hgate => ?_, fun _ => ?_⟩
    · obtain ⟨x, hx⟩ : ∃ x, x = w.countWholeSlot := ⟨_, rfl⟩
      have hxframe : x = { w with table := x.table } := hx ▸ w.countWholeSlot_table_eq
      rw [if_pos hengaged, ← hx, State.channelClosed]
      generalize x.table = table at hxframe ⊢
      rw [hxframe, hwframe, hframe]
    · rw [State.channelClosed_table, List.map_map, ← hkeys]
      exact List.map_congr_left fun q _ => by simp
    · rw [State.channelClosed_table, filter_map_afterReturn, hothers]
    · have hshut : s.writeGate = none := (State.writeGate_engaged he).resolve_right fun hopen => hgate (hp ▸ hopen)
      obtain ⟨hmedia', huses'⟩ := s.tearSector_leaves.1 hshut
      exact ⟨(hcounted.1.trans htear.1).trans hmedia', (hcounted.2.trans htear.2).trans huses'⟩
    · exact ⟨hcounted.1.trans htear.1, hcounted.2.trans htear.2⟩

end

/-- R99: the order in which a spindle's requests complete. -/
def leavingOrder (p : Port) (table : List Request) : List Request :=
  (table.filter fun r => r.spindle == p && r.status == .active) ++ table.filter fun r => r.spindle == p && r.status != .active

theorem State.completionOrder_eq (s : State) (p : Port) : s.completionOrder p = (leavingOrder p s.table).map (·.tag) := by
  simp only [State.completionOrder, State.requestsOf, List.filter_filter, leavingOrder, List.map_append, Bool.and_comm]

theorem leavingOrder_perm (p : Port) (table : List Request) :
    (leavingOrder p table).Perm (table.filter fun r => r.spindle == p) := by
  have hsplit := List.filter_append_perm (fun r : Request => r.status == .active) (table.filter fun r => r.spindle == p)
  simp only [List.filter_filter] at hsplit
  unfold leavingOrder
  simpa [bne, Bool.and_comm] using hsplit

theorem mem_leavingOrder {p : Port} {table : List Request} {r : Request} :
    r ∈ leavingOrder p table ↔ r ∈ table ∧ r.spindle = p := by
  rw [(leavingOrder_perm p table).mem_iff, List.mem_filter, beq_iff_eq]

/-- The order of completion rests on the requests' spindles and on which is ACTIVE. -/
theorem leavingOrder_map {β : Type} {table other : List Request} (h : table.map Request.key = other.map Request.key) {g : Request → β}
    (hg : ∀ r : Request, g r.unjudged = g r) (p : Port) : (leavingOrder p table).map g = (leavingOrder p other).map g := by
  have hfilter (l : List Request) (c : Bool → Bool) :
      (l.filter fun r => r.spindle == p && c (r.status == .active)).map g =
        ((l.map Request.key).filter fun k => k.1.spindle == p && c k.2).map fun k => g k.1 := by
    rw [List.filter_map, List.map_map]
    exact List.map_congr_left fun r _ => (hg r).symm
  have hactive := hfilter table id
  have hother := hfilter other id
  have hactive' := hfilter table not
  have hother' := hfilter other not
  rw [h] at hactive hactive'
  simp only [leavingOrder, List.map_append, bne]
  exact (congrArg (· ++ _) (hactive.trans hother.symm)).trans (congrArg (_ ++ ·) (hactive'.trans hother'.symm))

section
variable {s u v : State} {p : Port} {returned : Nat}

theorem State.wholeSlotCounted_pairs (s : State) (p : Port) :
    (s.wholeSlotCounted p).table.map (fun r => (r.tag, r.spindle, r.staged.length)) =
      s.table.map fun r => (r.tag, r.spindle, r.staged.length) := by
  have hcounted (t : Tag) : (s.withSectorDone t).table.map (fun r => (r.tag, r.spindle, r.staged.length)) =
      s.table.map fun r => (r.tag, r.spindle, r.staged.length) := by
    rw [State.withSectorDone_eq, List.map_map]
    refine List.map_congr_left fun r _ => ?_
    simp only [Function.comp_apply, State.sectorCounted]
    split <;> rfl
  unfold State.wholeSlotCounted
  cases he : s.chan with
  | none => rfl
  | some e =>
    split
    · rw [State.countWholeSlot_eq he]
      split
      · exact hcounted e.tag
      · rfl
    · rfl

/-- R147: an abort leaves every request its tag, its spindle and its staged buffers. -/
theorem State.Aborts.pairs (h : s.Aborts u v p returned) :
    v.table.map (fun r => (r.tag, r.spindle, r.staged.length)) = s.table.map fun r => (r.tag, r.spindle, r.staged.length) := by
  have hkeys := congrArg (List.map fun k : Request × Bool => (k.1.tag, k.1.spindle, k.1.staged.length)) h.keys
  simp only [List.map_map, Function.comp_def] at hkeys
  exact hkeys.trans (s.wholeSlotCounted_pairs p)

theorem State.Aborts.leaving (h : s.Aborts u v p returned) (hexact : s.EngagementExact) (hstate : (u.spindle p).state ≠ .ready)
    (harm : (u.spindle p).arm = .unknown) : v.Leaving p (leavingOrder p v.table) := by
  obtain ⟨hd, -, hselected⟩ := hexact
  have hpairs := h.pairs
  have htags : v.admissionList = s.admissionList := by
    have := congrArg (List.map fun x : Tag × Port × Nat => x.1) hpairs
    simpa [State.admissionList, List.map_map, Function.comp_def] using this
  have hd' : v.TagsDistinct := by rw [State.TagsDistinct, htags]; exact hd
  have hspindles : ∀ j, v.spindle j = u.spindle j := State.spindle_congr (by rw [h.frame])
  refine ⟨hd', ?_, fun r hr => ?_, fun q hq => ⟨fun hp => ?_, fun hmem => ?_⟩, fun e he hmem => ?_, ?_, ?_⟩
  · refine (((leavingOrder_perm p v.table).map (·.tag)).nodup_iff).mpr ?_
    exact hd'.sublist (List.filter_sublist.map _)
  · rw [State.request_of_mem hd' (mem_leavingOrder.mp hr).1]
    rfl
  · exact List.mem_map_of_mem (mem_leavingOrder.mpr ⟨hq, hp⟩)
  · obtain ⟨r, hr, htag⟩ := List.mem_map.mp hmem
    obtain ⟨hrv, hrp⟩ := mem_leavingOrder.mp hr
    rwa [eq_of_tag_eq hd' hq hrv htag.symm]
  · have hchan : v.chan = if s.chan.any (fun e => e.spindle == p) then none else s.chan := by rw [h.frame]
    have hs : s.chan = some e ∧ e.spindle ≠ p := by
      rw [he] at hchan
      split at hchan
      · cases hchan
      · next hother => exact ⟨hchan.symm, by simpa [← hchan] using hother⟩
    obtain ⟨r, hr, hrtag, hrspindle⟩ := hselected e hs.1
    obtain ⟨q, hq, hqtag⟩ := List.mem_map.mp hmem
    obtain ⟨hqv, hqp⟩ := mem_leavingOrder.mp hq
    have hmems : (q.tag, q.spindle, q.staged.length) ∈ s.table.map fun r => (r.tag, r.spindle, r.staged.length) :=
      hpairs ▸ List.mem_map_of_mem (f := fun r : Request => (r.tag, r.spindle, r.staged.length)) hqv
    obtain ⟨x, hx, hxq⟩ := List.mem_map.mp hmems
    simp only [Prod.mk.injEq] at hxq
    obtain ⟨hxtag, hxspindle, -⟩ := hxq
    have hsame := eq_of_tag_eq hd hx hr (hxtag.trans (hqtag.trans hrtag.symm))
    exact hs.2 (by rw [← hrspindle, ← hsame, hxspindle, hqp])
  · rwa [hspindles]
  · rwa [hspindles]

/-- Table 8-1: the buffers that the spindle's requests hold. -/
theorem State.Aborts.staged (h : s.Aborts u v p returned) :
    ((leavingOrder p v.table).map fun r => r.staged.length).sum =
      ((s.table.filter fun r => r.spindle == p).map fun r => r.staged.length).sum := by
  have hfilter (l : List Request) : (l.filter fun r => r.spindle == p).map (fun r => r.staged.length) =
      ((l.map fun r => (r.tag, r.spindle, r.staged.length)).filter fun x => x.2.1 == p).map fun x => x.2.2 := by
    rw [List.filter_map, List.map_map]
    rfl
  rw [((leavingOrder_perm p v.table).map fun r => r.staged.length).sum_nat, hfilter, hfilter, h.pairs]

theorem State.Aborts.idle_iff (h : s.Aborts u v p returned) : leavingOrder p v.table = [] ↔ s.requestCount p = 0 := by
  have hspindles : v.table.map (·.spindle) = s.table.map (·.spindle) := by
    have := congrArg (List.map fun x : Tag × Port × Nat => x.2.1) h.pairs
    simpa [List.map_map, Function.comp_def] using this
  rw [State.requestCount_eq_count, ← hspindles, ← State.requestCount_eq_count, State.requestCount, State.requestsOf,
    List.length_eq_zero_iff, ← List.perm_nil, ← List.perm_nil]
  exact ⟨fun hnil => (leavingOrder_perm p v.table).symm.trans hnil, fun hnil => (leavingOrder_perm p v.table).trans hnil⟩

end

theorem State.buffersOn_eq (s : State) (p : Port) :
    s.buffersOn p = s.channelBuffersOn p + ((s.table.filter fun r => r.spindle == p).map fun r => r.staged.length).sum := rfl

section
variable {s : State} {p : Port} {st : SpindleState} {o : Outcome} {cause : Option Cause} (h : OutOfService st o cause)
  (hexact : s.EngagementExact) (harm : s.ArmExact)
include h hexact harm

theorem State.leaveService_eq :
    s.leaveService p st o cause = { s with
      spindles := (s.outOfService p st cause).spindles
      waitList := if (s.spindle p).state = .spinWait then s.waitList.filter (· != p) else s.waitList
      activity := if s.requestCount p = 0 then s.activity else toTail p s.activity
      table := (s.table.filter fun r => r.spindle != p).map (Request.afterReturn (s.buffersOn p))
      chan := if s.chan.any (fun e => e.spindle == p) then none else s.chan
      free := s.free + s.buffersOn p
      stream := s.stream ++ (leavingOrder p (s.wholeSlotCounted p).table).map fun r => doneOf r o cause none
      events := stateChangePosted p st cause s.events
      media := (s.leaveService p st o cause).media
      freeUses := (s.leaveService p st o cause).freeUses } ∧
    (s.writeGate ≠ some p → (s.leaveService p st o cause).media = s.media ∧ (s.leaveService p st o cause).freeUses = s.freeUses) ∧
    (s.writeGate = some p → (s.leaveService p st o cause).media = s.tearSector.media ∧
      (s.leaveService p st o cause).freeUses = s.tearSector.freeUses) := by
  obtain ⟨w, hw⟩ : ∃ w, w = (s.outOfService p st cause).abortChannel p := ⟨_, rfl⟩
  have haborts := State.outOfService_aborts (p := p) h hexact
  rw [← hw] at haborts
  have hframe := State.outOfService_eq (s := s) (p := p) h
  have hrecord := State.outOfService_spindle_same (s := s) (p := p) h
  obtain ⟨hready, -, -, -, -⟩ := h.resting
  have hleaving := haborts.leaving hexact (by rw [hrecord]; exact hready) (by
    rw [hrecord]
    simp only
    split
    · rfl
    · next hst => exact (harm p).mpr hst)
  have hall := hleaving.complete_all (cause := cause) h.notFailing
  rw [← State.completionOrder_eq] at hall
  have hservice : s.leaveService p st o cause = _ := (congrArg (fun x => State.completeAll x p o cause) hw.symm).trans hall
  have hstream := leavingOrder_map haborts.keys (g := fun r => doneOf r o cause none) (fun _ => rfl) p
  have hothers := haborts.others
  have hidle := haborts.idle_iff
  rw [haborts.staged, hothers, map_afterReturn_add, ← State.buffersOn_eq, hstream] at hservice
  have hv := haborts.frame
  refine ⟨?_, fun hgate => ?_, fun hgate => ?_⟩
  · have hmedia : (s.leaveService p st o cause).media = w.media := by rw [hservice]
    have huses : (s.leaveService p st o cause).freeUses = w.freeUses := by rw [hservice]
    simp only [hidle] at hservice
    rw [hmedia, huses, hservice]
    generalize w.media = media at hv ⊢
    generalize w.freeUses = uses at hv ⊢
    rw [hv, hframe, Nat.add_assoc, ← State.buffersOn_eq]
  · rw [hservice]
    exact haborts.closed hgate
  · rw [hservice]
    exact haborts.torn hgate

end

theorem State.leaveService_spindle (s : State) (p q : Port) (st : SpindleState) (o : Outcome) (cause : Option Cause)
    (h : OutOfService st o cause) (hexact : s.EngagementExact) (harm : s.ArmExact) :
    (s.leaveService p st o cause).spindle q = (s.outOfService p st cause).spindle q := by
  obtain ⟨hframe, -, -⟩ := State.leaveService_eq h hexact harm (p := p)
  exact State.spindle_congr (congrArg State.spindles hframe) q

theorem State.TearLeaves.congr {s v w : State} (h : s.TearLeaves v) (hmedia : w.media = v.media) (huses : w.freeUses = v.freeUses) :
    s.TearLeaves w := by
  unfold State.TearLeaves at h ⊢
  rw [hmedia, huses]
  exact h

/-- R13, R97: a format slot written whole is counted unless it is the last, and nothing is counted otherwise. -/
theorem State.wholeSlotCounted_cases (s : State) (p : Port) :
    (∀ e r, s.chan = some e → e.spindle = p → e.phase = .formatWrite false → s.request e.tag = some r → r.done + 1 < r.count →
      s.wholeSlotCounted p = s.withSectorDone e.tag) ∧
    ((∀ e r, s.chan = some e → e.spindle = p → e.phase = .formatWrite false → s.request e.tag = some r → r.count ≤ r.done + 1) →
      s.wholeSlotCounted p = s) := by
  unfold State.wholeSlotCounted
  refine ⟨fun e r he hp hphase hr hless => ?_, fun hnone => ?_⟩
  · rw [if_pos (by simp [he, hp]), State.countWholeSlot_eq he, if_pos ⟨hphase, by simpa [hr] using hless⟩]
  · split
    · next hengaged =>
      obtain ⟨e, he, hp⟩ : ∃ e, s.chan = some e ∧ e.spindle = p := by simpa [Option.any_eq_true] using hengaged
      rw [State.countWholeSlot_eq he, if_neg]
      rintro ⟨hphase, hany⟩
      obtain ⟨r, hr, hless⟩ := (Option.any_eq_true ..).mp hany
      have := hnone e r he hp hphase hr
      simp only [decide_eq_true_eq] at hless
      omega
    · rfl

/-- Settles O24: `State.leaveService_eq`, with `State.wholeSlotCounted` for what the abort counts. -/
theorem spindleLeavesService : Obligations.SpindleLeavesService := by
  unfold Obligations.SpindleLeavesService
  intro s p v st o cause hexact harm hleaves
  obtain ⟨hv, h⟩ : v = s.leaveService p st o cause ∧ OutOfService st o cause := by
    rcases hleaves with ⟨c, rfl, rfl, rfl, rfl⟩ | ⟨rfl, rfl, rfl, rfl⟩
    · exact ⟨s.enterFaulted_eq p c, .inl ⟨rfl, rfl, rfl⟩⟩
    · exact ⟨s.enterAbsent_eq p, .inr ⟨rfl, rfl, rfl⟩⟩
  subst hv
  obtain ⟨hframe, hclosed, htorn⟩ := State.leaveService_eq (p := p) h hexact harm
  have hspindle (q : Port) := s.leaveService_spindle p q st o cause h hexact harm
  have hcounted := s.wholeSlotCounted_cases p
  refine ⟨⟨s.wholeSlotCounted p, hcounted.1, hcounted.2, ?stream⟩, ?frame, ?record, fun q hq => ?_, hclosed, fun hgate => ?torn⟩
  case stream => exact congrArg State.stream hframe
  case frame =>
    have hspindles : (s.leaveService p st o cause).spindles = (s.outOfService p st cause).spindles := by rw [hframe]
    have hstream : (s.leaveService p st o cause).stream = _ := congrArg State.stream hframe
    refine hframe.trans ?_
    rw [← hspindles, hstream]
    rfl
  case record =>
    have hgivenUp : (if (s.spindle p).state = .ready then Arm.unknown else (s.spindle p).arm) = .unknown := by
      split
      · rfl
      · next hst => exact (harm p).mpr hst
    rw [hspindle, State.outOfService_spindle_same h, hgivenUp]
  case torn => exact s.tearSector_leaves.congr (htorn hgate).1 (htorn hgate).2
  · rw [hspindle, State.outOfService_spindle_of_ne _ _ _ hq]

end Sys2Proof.Machine
end

section
/-! The marks at the tracker (O30 to O32: R27, R45 to R52, R56, R59), the marks at the Channel (O33: R123, R127, R138, R139, R142) and the
ends of motions (O34: R58 to R61, R63 to R67). -/

-- One declaration after another: elaborated in parallel, these files ask for more memory than a check has.
set_option Elab.async false

namespace Sys2Proof.Machine

theorem exec_sectorMark (p : Port) (s : State) :
    exec (.sectorMark p) s = event s fun u => (u.trackSector p).channelMark p false := rfl

theorem exec_indexMark (p : Port) (moment : Nat) (s : State) :
    exec (.indexMark p moment) s = event s fun u => ((u.clockTo moment).spindleIndex p).channelMark p true := rfl

/-! The tracker's record -/

theorem State.modTracker_changes (s : State) (p : Port) (f : Tracker → Tracker) :
    s.modTracker p f = { s with spindles := (s.modTracker p f).spindles } ∧
    (s.modTracker p f).spindle p = { s.spindle p with tracker := f (s.spindle p).tracker } ∧
    ∀ q : Port, q ≠ p → (s.modTracker p f).spindle q = s.spindle q :=
  s.modSpindle_changes p _

theorem State.modTracker_spindle_same (s : State) (p : Port) (f : Tracker → Tracker) :
    (s.modTracker p f).spindle p = { s.spindle p with tracker := f (s.spindle p).tracker } := (s.modTracker_changes p f).2.1

theorem State.modTracker_spindle_of_ne (s : State) {p q : Port} (f : Tracker → Tracker) (h : q ≠ p) :
    (s.modTracker p f).spindle q = s.spindle q := (s.modTracker_changes p f).2.2 q h

/-- R188: a post for a spindle that is not FAULTED carries no cause. -/
theorem State.post_eq {s : State} {p : Port} (h : (s.spindle p).state ≠ .faulted) (kind : EventSet) :
    s.post p kind = s.setEvents (postInto p kind (s.spindle p).state none s.events) := by
  simp [State.post, State.setEvents, h]

/-- R51: the fault threshold, reached when the errors held at the limit have come to it. -/
theorem State.reportThreshold_counted {s : State} {p : Port} {errors : Nat}
    (h : (s.spindle p).tracker.errors = min s.params.trackFaultLimit (errors + 1)) :
    s.reportThreshold p =
      if (s.spindle p).state = .ready ∧ s.params.trackFaultLimit ≤ errors + 1 then s.enterFaulted p .tracking else s := by
  have hlimit : min s.params.trackFaultLimit (errors + 1) = s.params.trackFaultLimit ↔ s.params.trackFaultLimit ≤ errors + 1 := by
    omega
  simp only [State.reportThreshold, h, hlimit]

theorem SpindleState.ne_faulted_of_spinning {st : SpindleState} (h : st.spinning = true) : st ≠ .faulted := by
  rintro rfl
  simp [SpindleState.spinning] at h

section
variable {s : State} {p : Port}

/-- R48, R52: an INDEX_LOST before its threshold is reported. -/
def State.indexLostNoted (s : State) (p : Port) : State :=
  ((s.modTracker p fun t => t.indexLost s.params.trackFaultLimit).post p eventPositionLost).reportTracked p

theorem State.indexLostNoted_spindle (s : State) (p q : Port) :
    (s.indexLostNoted p).spindle q = (s.modTracker p fun t => t.indexLost s.params.trackFaultLimit).spindle q := by
  simp [State.indexLostNoted]

theorem State.indexLostNoted_eq (h : (s.spindle p).state.spinning = true) :
    s.indexLostNoted p = { s with
      spindles := (s.indexLostNoted p).spindles
      table := if (s.spindle p).state = .ready then s.table.map (Request.spindleEvaluated p true) else s.table
      events := postInto p eventPositionLost (s.spindle p).state none s.events } := by
  obtain ⟨v, hv⟩ : ∃ v, v = s.modTracker p fun t => t.indexLost s.params.trackFaultLimit := ⟨_, rfl⟩
  obtain ⟨hframe, hrecord, -⟩ := s.modTracker_changes p fun t => t.indexLost s.params.trackFaultLimit
  rw [← hv] at hframe hrecord
  have hstate : (v.spindle p).state = (s.spindle p).state := by rw [hrecord]
  have hpost := State.post_eq (s := v) (p := p) (by rw [hstate]; exact SpindleState.ne_faulted_of_spinning h) eventPositionLost
  have huntracked : v.spindleHold p = true := by
    rw [State.spindleHold, hrecord]
    simp [Tracker.indexLost]
  have hhold (events : List EventRecord) : (v.setEvents events).spindleHold p = v.spindleHold p := rfl
  rw [State.indexLostNoted, ← hv, hpost, hstate, State.reportTracked, State.setEvents_spindle]
  by_cases hready : (s.spindle p).state = .ready
  · rw [if_pos (hstate.trans hready), if_pos hready, State.evalSpindleHold_eq, hhold, huntracked, hframe]
    rfl
  · rw [if_neg (fun h' => hready (hstate.symm.trans h')), if_neg hready, hframe]
    rfl

theorem State.indexLost_eq (h : (s.spindle p).state.spinning = true) :
    s.indexLost p =
      if (s.spindle p).state = .ready ∧ s.params.trackFaultLimit ≤ (s.spindle p).tracker.errors + 1 then
        (s.indexLostNoted p).enterFaulted p .tracking
      else s.indexLostNoted p := by
  have hparams : (s.indexLostNoted p).params = s.params := by rw [State.indexLostNoted_eq h]
  have hrecord := s.indexLostNoted_spindle p p
  rw [State.modTracker_spindle_same] at hrecord
  have hthreshold := State.reportThreshold_counted (s := s.indexLostNoted p) (p := p) (errors := (s.spindle p).tracker.errors)
    (by rw [hrecord, hparams]; rfl)
  rw [hrecord, hparams] at hthreshold
  exact hthreshold

end

/-- Settles O30: the three clauses of `State.trackSector`. -/
theorem sectorMarks : Obligations.SectorMarks := by
  unfold Obligations.SectorMarks
  refine fun s p hrun => ⟨s.trackSector p, ?taken, fun hnot => ?ignored, fun hspinning hspun htracked => ⟨fun hless => ?raised,
    fun hlast => ⟨s.indexLostNoted p, State.indexLostNoted_eq hspinning, ?record, fun q hq => ?other, ?lost⟩⟩⟩
  case taken => rw [Taken, exec_sectorMark, event_running _ _ hrun]
  case ignored =>
    have hfalse : ((s.spindle p).takesMarks && (s.spindle p).tracker.tracked) = false :=
      Bool.eq_false_iff.mpr fun h => hnot (by simpa [Spindle.takesMarks, and_assoc] using h)
    simp only [State.trackSector, hfalse, Bool.false_eq_true, if_false]
  all_goals have htakes : ((s.spindle p).takesMarks && (s.spindle p).tracker.tracked) = true := by simp [Spindle.takesMarks, *]
  case raised =>
    have htrack : s.trackSector p = s.modTracker p fun t => { t with sector := t.sector + 1 } := by
      simp only [State.trackSector, htakes, if_true, hless]
    rw [htrack]
    exact s.modTracker_changes p _
  case record =>
    rw [State.indexLostNoted_spindle, State.modTracker_spindle_same]
    rfl
  case other => rw [State.indexLostNoted_spindle, State.modTracker_spindle_of_ne _ _ hq]
  case lost =>
    have htrack : s.trackSector p = s.indexLost p := by simp [State.trackSector, htakes, hlast]
    rw [htrack, State.indexLost_eq hspinning]

section
variable {s : State} {p : Port}

/-- R50: a SHORT_REVOLUTION before its threshold is reported. -/
def State.shortNoted (s : State) (p : Port) : State :=
  (s.modTracker p fun t => t.shortRevolution s.params.trackFaultLimit s.now).post p eventPositionLost

theorem State.shortNoted_spindle (s : State) (p q : Port) :
    (s.shortNoted p).spindle q = (s.modTracker p fun t => t.shortRevolution s.params.trackFaultLimit s.now).spindle q := by
  simp [State.shortNoted]

theorem State.shortNoted_eq (h : (s.spindle p).state.spinning = true) :
    s.shortNoted p = { s with
      spindles := (s.shortNoted p).spindles
      events := postInto p eventPositionLost (s.spindle p).state none s.events } := by
  have hrecord := s.modTracker_spindle_same p fun t => t.shortRevolution s.params.trackFaultLimit s.now
  have hstate : ((s.modTracker p fun t => t.shortRevolution s.params.trackFaultLimit s.now).spindle p).state = (s.spindle p).state := by
    rw [hrecord]
  rw [State.shortNoted, State.post_eq (by rw [hstate]; exact SpindleState.ne_faulted_of_spinning h), hstate]
  rfl

theorem State.shortRevolution_eq (h : (s.spindle p).state.spinning = true) :
    s.shortRevolution p =
      if (s.spindle p).state = .ready ∧ s.params.trackFaultLimit ≤ (s.spindle p).tracker.errors + 1 then
        (s.shortNoted p).enterFaulted p .tracking
      else s.shortNoted p := by
  have hparams : (s.shortNoted p).params = s.params := by rw [State.shortNoted_eq h]
  have hrecord := s.shortNoted_spindle p p
  rw [State.modTracker_spindle_same] at hrecord
  have hthreshold := State.reportThreshold_counted (s := s.shortNoted p) (p := p) (errors := (s.spindle p).tracker.errors)
    (by rw [hrecord, hparams]; rfl)
  rw [hrecord, hparams] at hthreshold
  exact hthreshold

/-- R46: the position acquired again in READY. -/
theorem State.acquired_eq (h : (s.spindle p).state = .ready) (now : Nat) :
    (s.modTracker p fun t => t.acquire now).reportTracked p = { s with
      spindles := (s.modTracker p fun t => t.acquire now).spindles
      table := s.table.map (Request.spindleEvaluated p false) } := by
  obtain ⟨v, hv⟩ : ∃ v, v = s.modTracker p fun t => t.acquire now := ⟨_, rfl⟩
  obtain ⟨hframe, hrecord, -⟩ := s.modTracker_changes p fun t => t.acquire now
  rw [← hv] at hframe hrecord ⊢
  have hready : (v.spindle p).state = .ready := by rw [hrecord, h]
  have htracked : v.spindleHold p = false := by
    rw [State.spindleHold, hrecord, h]
    simp [Tracker.acquire]
  rw [State.reportTracked, if_pos hready, State.evalSpindleHold_eq, htracked, hframe]

theorem State.spindleIndex_ignored (h : ¬ ((s.spindle p).state.spinning = true ∧ (s.spindle p).lines.spun = true)) :
    s.spindleIndex p = s := by
  have hfalse : (s.spindle p).takesMarks = false := Bool.eq_false_iff.mpr fun h' => h (by simpa [Spindle.takesMarks] using h')
  simp only [State.spindleIndex, hfalse, Bool.false_eq_true, if_false]

theorem State.spindleIndex_tracked (hup : (s.spindle p).state ≠ .spinningUp) (hspinning : (s.spindle p).state.spinning = true)
    (hspun : (s.spindle p).lines.spun = true) : s.spindleIndex p = s.trackIndex p := by
  have htakes : (s.spindle p).takesMarks = true := by simp [Spindle.takesMarks, hspinning, hspun]
  simp only [State.spindleIndex, htakes, if_true, hup, if_false]

end

/-- Settles O31: the clauses of `State.trackIndex`, at the mark's moment. -/
theorem indexMarks : Obligations.IndexMarks := by
  unfold Obligations.IndexMarks
  intro s p moment hrun hup
  obtain ⟨w, hw⟩ : ∃ w, w = s.clockTo moment := ⟨_, rfl⟩
  have hspindle (q : Port) : w.spindle q = s.spindle q := by rw [hw, State.clockTo_spindle]
  have hnow : w.now = max s.now moment := by rw [hw, State.clockTo_now]
  have hwframe : w = { s with now := w.now } := by rw [hw]; rfl
  refine ⟨_, w.spindleIndex p, rfl, ?taken, fun hnot => ?ignored, fun hspinning hspun => ?_⟩
  case taken => rw [Taken, exec_indexMark, event_running _ _ hrun, hw]
  case ignored => rw [State.spindleIndex_ignored (by rwa [hspindle]), ← hnow, ← hwframe]
  rw [← hspindle p] at hup hspinning hspun ⊢
  have hindex := State.spindleIndex_tracked hup hspinning hspun
  simp only [← hspindle, ← hnow]
  refine ⟨fun htracked hlast => ?clean, fun htracked hearly => ⟨w.shortNoted p, ?frame, ?record, fun q hq => ?other, ?short⟩,
    fun huntracked hready => ?acquired, fun huntracked hstopping => ?stopping⟩
  case clean =>
    have htrack : w.trackIndex p = w.modTracker p fun t => t.clean w.now := by simp [State.trackIndex, htracked, hlast]
    obtain ⟨hframe, hrecord, hother⟩ := w.modTracker_changes p fun t => t.clean w.now
    rw [hindex, htrack]
    refine ⟨?_, hrecord.trans ?_, hother⟩
    · refine hframe.trans ?_
      rw [hwframe]
    · rw [Tracker.clean, Tracker.measured] <;> rfl
  case frame =>
    refine (State.shortNoted_eq hspinning).trans ?_
    rw [hwframe]
    rfl
  case record =>
    rw [State.shortNoted_spindle, State.modTracker_spindle_same, hwframe]
    rfl
  case other => rw [State.shortNoted_spindle, State.modTracker_spindle_of_ne _ _ hq]
  case short =>
    have hparams : w.params = s.params := by rw [hwframe]
    have htrack : w.trackIndex p = w.shortRevolution p := by simp [State.trackIndex, htracked, hearly]
    rw [hindex, htrack, State.shortRevolution_eq hspinning, hparams]
  case acquired =>
    have htrack : w.trackIndex p = (w.modTracker p fun t => t.acquire w.now).reportTracked p := by
      simp [State.trackIndex, huntracked, hready]
    have hreported (q : Port) : (w.spindleIndex p).spindle q = (w.modTracker p fun t => t.acquire w.now).spindle q := by
      rw [hindex, htrack, State.reportTracked_spindle]
    refine ⟨?_, ?_, fun q hq => ?_⟩
    · have hspindles : (w.spindleIndex p).spindles = (w.modTracker p fun t => t.acquire w.now).spindles :=
        State.spindles_ext hreported
      rw [hspindles, hindex, htrack, State.acquired_eq hready, hwframe]
    · rw [hreported, State.modTracker_spindle_same]
      rfl
    · rw [hreported, State.modTracker_spindle_of_ne _ _ hq]
  case stopping =>
    rw [hindex, ← hwframe]
    simp [State.trackIndex, huntracked, hstopping]

/-! R27: READY entered -/

section
variable {s : State} {p : Port} (hup : (s.spindle p).state = .spinningUp) (htimers : s.TimersSound)
include hup

/-- R27, R59, R84: what the index mark that makes a spindle READY changes beside its records. -/
theorem State.enterReady_eq : s.enterReady p = { s with
    spindles := (s.enterReady p).spindles
    activity := toTail p s.activity
    table := s.table.map (Request.spindleEvaluated p false)
    events := stateChangePosted p .ready none s.events } := by
  obtain ⟨a, ha⟩ : ∃ a, a = s.modTracker p fun t => t.acquire s.now := ⟨_, rfl⟩
  obtain ⟨haframe, harecord, -⟩ := s.modTracker_changes p fun t => t.acquire s.now
  rw [← ha] at haframe harecord
  obtain ⟨b, hb⟩ : ∃ b, b = a.enterState p .ready := ⟨_, rfl⟩
  have hbframe : b = { a with
      spindles := b.spindles, table := a.table.map (Request.spindleEvaluated p false)
      events := stateChangePosted p .ready none a.events } := by
    have hframe := a.enterState_eq p .ready
    simpa [harecord, hup, Spindle.enter, Tracker.acquire, SpindleState.spinning, ← hb] using hframe
  have hready : (b.spindle p).state = .ready := by rw [hb, State.enterState_spindle_same]; rfl
  obtain ⟨hrestore, -, -⟩ := State.issueRestore_changes hready
  obtain ⟨hidle, -, -⟩ := ((b.issueRestore p).touchActivity p).startIdle_changes p
  have hstep : s.enterReady p = ((b.issueRestore p).touchActivity p).startIdle p := by rw [hb, ha]; rfl
  rw [hstep]
  refine hidle.trans ?_
  rw [hrestore, hbframe, haframe]
  rfl

omit hup in
theorem State.enterReady_spindle_of_ne {q : Port} (hq : q ≠ p) : (s.enterReady p).spindle q = s.spindle q := by
  have hready : (((s.modTracker p fun t => t.acquire s.now).enterState p .ready).spindle p).state = .ready := by
    rw [State.enterState_spindle_same]; rfl
  obtain ⟨-, -, hrestore⟩ := State.issueRestore_changes hready
  obtain ⟨-, -, hidle⟩ :=
    ((((s.modTracker p fun t => t.acquire s.now).enterState p .ready).issueRestore p).touchActivity p).startIdle_changes p
  rw [State.enterReady, hidle q hq, State.touchActivity_spindle, hrestore q hq, State.enterState_spindle_of_ne _ _ hq,
    State.modTracker_spindle_of_ne _ _ hq]

include htimers

theorem State.enterReady_spindle_same : (s.enterReady p).spindle p = { s.spindle p with
    state := .ready, spinUpTimer := none
    tracker := { (s.spindle p).tracker with tracked := true, sector := 0, indexTime := some s.now }
    arm := .restoring (s.now + s.params.seekTimeout * 1000)
    orders := { (s.spindle p).orders with restoreStrobes := (s.spindle p).orders.restoreStrobes + 1 }
    idleTimer :=
      if (s.spindle p).pinned = false ∧ s.requestCount p = 0 ∧ s.params.idleTimeout ≠ 0 then
        some (s.now + s.params.idleTimeout * 1000000)
      else none } := by
  obtain ⟨-, hdown, hidleTimer⟩ := htimers p
  have hnoDown : (s.spindle p).spinDownTimer = none :=
    Option.not_isSome_iff_eq_none.mp fun h => by simp [hup] at hdown; simp [hdown] at h
  have hnoIdle : (s.spindle p).idleTimer = none :=
    Option.not_isSome_iff_eq_none.mp fun h => by simpa [hup] using (hidleTimer h).1
  obtain ⟨b, hb⟩ : ∃ b, b = (s.modTracker p fun t => t.acquire s.now).enterState p .ready := ⟨_, rfl⟩
  have hrecord : b.spindle p = { s.spindle p with
      state := .ready, spinUpTimer := none
      tracker := { (s.spindle p).tracker with tracked := true, sector := 0, indexTime := some s.now } } := by
    rw [hb, State.enterState_spindle_same, State.modTracker_spindle_same]
    simp [Spindle.enter, hup, hnoDown, SpindleState.spinning, Tracker.acquire]
  have hkept : b.now = s.now ∧ b.params = s.params := by simp [hb, State.modTracker]
  obtain ⟨hnow, hparams⟩ := hkept
  have hcount : b.requestCount p = s.requestCount p := by
    have hmodified : (s.modTracker p fun t => t.acquire s.now).table = s.table := rfl
    rw [State.requestCount_eq_count, State.requestCount_eq_count, hb, State.enterState_table, hmodified, List.map_map]
    refine congrArg _ (List.map_congr_left fun r _ => ?_)
    simp only [Function.comp_apply, Request.spindleEvaluated]
    split <;> simp
  have hready : (b.spindle p).state = .ready := by rw [hrecord]
  obtain ⟨hrestoreFrame, hrestore, -⟩ := State.issueRestore_changes hready
  obtain ⟨-, hidle, -⟩ := ((b.issueRestore p).touchActivity p).startIdle_changes p
  have hcount' : ((b.issueRestore p).touchActivity p).requestCount p = b.requestCount p :=
    State.requestCount_congr (by rw [hrestoreFrame]; rfl) p
  have hkept' : ((b.issueRestore p).touchActivity p).now = b.now ∧ ((b.issueRestore p).touchActivity p).params = b.params := by simp
  have hstep : s.enterReady p = ((b.issueRestore p).touchActivity p).startIdle p := by rw [hb]; rfl
  rw [hstep, hidle, hkept'.1, hkept'.2, hcount', State.touchActivity_spindle, hrestore, hrecord, hcount, hnow, hparams]
  simp [hnoIdle]

end

/-- Settles O32: `State.enterReady_eq` and the spindle's records, at the mark's moment. -/
theorem readyEntered : Obligations.ReadyEntered := by
  unfold Obligations.ReadyEntered
  intro s p moment hrun hup htimers
  obtain ⟨w, hw⟩ : ∃ w, w = s.clockTo moment := ⟨_, rfl⟩
  have hspindle (q : Port) : w.spindle q = s.spindle q := by rw [hw, State.clockTo_spindle]
  have hnow : w.now = max s.now moment := by rw [hw, State.clockTo_now]
  have hwframe : w = { s with now := w.now } := by rw [hw]; rfl
  have hup' : (w.spindle p).state = .spinningUp := by rw [hspindle, hup]
  have htimers' : w.TimersSound := by rw [hwframe]; exact htimers
  refine ⟨_, w.spindleIndex p, rfl, ?taken, fun hspun => ?ignored, fun hspun => ?_⟩
  case taken => rw [Taken, exec_indexMark, event_running _ _ hrun, hw]
  case ignored => rw [State.spindleIndex_ignored (by simp [hspindle, hspun]), ← hnow, ← hwframe]
  have htakes : (w.spindle p).takesMarks = true := by simp [Spindle.takesMarks, hspindle, hup, hspun, SpindleState.spinning]
  have henter : w.spindleIndex p = w.enterReady p := by simp [State.spindleIndex, htakes, hup']
  have hrecord := State.enterReady_spindle_same hup' htimers'
  have hcount : w.requestCount p = s.requestCount p := State.requestCount_congr (by rw [hwframe]) p
  have hparams : w.params = s.params := by rw [hwframe]
  rw [henter, ← hnow]
  refine ⟨?_, ?_, fun q hq => ?_⟩
  · refine (State.enterReady_eq hup').trans ?_
    rw [hwframe]
    rfl
  · rw [hrecord, hspindle, hcount, hparams]
  · rw [State.enterReady_spindle_of_ne hq, hspindle]

/-! R123, R127, R138, R139, R142: a mark at the Channel -/

section
variable {s : State} {e : Engagement} (hchan : s.chan = some e) (isIndex : Bool)
include hchan

/-- R127: the mark counted, and the search that fails at the bound on marks. -/
theorem State.countedMark_eq :
    s.countedMark e isIndex =
      if (s.params.revLimit + 1) * (s.spindle e.spindle).sectors ≤ e.searchMarks + 1 then
        State.searchFailed { s with chan := some (e.countMark isIndex) }
      else { s with chan := some (e.countMark isIndex) } := by
  rw [State.countedMark, State.modChan_eq hchan]
  rfl

omit hchan in
theorem State.searchFailed_counted_search (hphase : e.phase = .search) :
    State.searchFailed { s with chan := some (e.countMark isIndex) } =
      State.endWith { s with chan := some (e.countMark isIndex) } .searchFailure := by
  have hphase' : (e.countMark isIndex).phase = .search := hphase
  simp only [State.searchFailed, hphase']

omit hchan in
theorem State.searchFailed_counted_complete (hphase : (∃ reading, e.phase = .pass reading) ∨ e.phase = .formatWait) :
    State.searchFailed { s with chan := some (e.countMark isIndex) } =
      State.complete { s with chan := some (e.countMark isIndex) } e.tag .sectorNotFound none := by
  have hphase' : (e.countMark isIndex).phase = e.phase := rfl
  rcases hphase with ⟨reading, hphase⟩ | hphase <;> simp only [State.searchFailed, hphase', hphase] <;> rfl

/-- R127, R138, R142: the phases in which a mark is counted. -/
theorem State.channelMark_counted
    (hphase : e.phase = .search ∨ (∃ reading, e.phase = .pass reading) ∨ (e.phase = .formatWait ∧ isIndex = false)) :
    s.channelMark e.spindle isIndex = s.countedMark e isIndex := by
  rcases hphase with hphase | ⟨reading, hphase⟩ | ⟨hphase, rfl⟩ <;> simp [State.channelMark, hchan, hphase]

end

/-- Settles O33: `State.countedMark_eq` where the mark is counted, and `State.formatIndex` at the index mark of a FORMAT. -/
theorem channelMarks : Obligations.ChannelMarks := by
  unfold Obligations.ChannelMarks
  intro s p isIndex
  refine ⟨fun hother => ?elsewhere, fun e he hp => ?_⟩
  case elsewhere =>
    unfold State.channelMark
    cases he : s.chan with
    | none => rfl
    | some e => exact if_neg (hother e he)
  subst hp
  refine ⟨fun hdata => ?inData, fun counted hcounted => ⟨fun hphase hless => ?counts, fun hbound => ⟨fun hphase hpending => ?fails,
    fun hphase hpending => ?defers, fun hphase => ?ends⟩⟩, fun hphase hindex => ⟨fun hwpr => ?shut, fun hwpr => ?opens⟩⟩
  case inData => rcases hdata with ⟨w, k, hphase⟩ | ⟨w, k, b, hphase⟩ | ⟨w, k, hphase⟩ <;> simp [State.channelMark, he, hphase]
  case counts =>
    rw [State.channelMark_counted he isIndex hphase, State.countedMark_eq he, if_neg (Nat.not_le.mpr hless), hcounted]
    rfl
  case fails =>
    have hmark := State.channelMark_counted he isIndex (.inl hphase)
    rw [hmark, State.countedMark_eq he, if_pos hbound, State.searchFailed_counted_search isIndex hphase,
      State.endWith_clear (e := e.countMark isIndex) rfl hpending, hcounted]
    rfl
  case defers =>
    have hmark := State.channelMark_counted he isIndex (.inl hphase)
    rw [hmark, State.countedMark_eq he, if_pos hbound, State.searchFailed_counted_search isIndex hphase, hcounted]
    rfl
  case ends =>
    have hmark := State.channelMark_counted he isIndex (.inr hphase)
    rw [hmark, State.countedMark_eq he, if_pos hbound,
      State.searchFailed_counted_complete isIndex (hphase.imp_right fun h => h.1), hcounted]
    rfl
  case shut => simp [State.channelMark, he, hphase, hindex, State.formatIndex, hwpr]
  case opens => simp [State.channelMark, he, hphase, hindex, State.formatIndex, hwpr, State.modChan_eq he]

/-! R58 to R67: the ends of motions -/

theorem exec_skd (p : Port) (s : State) : exec (.skd p) s = event s (armEvent p fun u => u.motionDone p) := rfl

theorem exec_ske (p : Port) (s : State) : exec (.ske p) s = event s (armEvent p fun u => u.motionFailed p) := rfl

theorem exec_motionTimerExpiry (p : Port) (s : State) :
    exec (.motionTimerExpiry p) s = event s (armEvent p fun u => u.motionTimeout p) := rfl

theorem armEvent_ready {p : Port} {s : State} (h : (s.spindle p).state = .ready) (effect : State → State) :
    armEvent p effect s = effect s := if_pos h

/-- R61, R64, R67: an arm that does not move takes no end of a motion. -/
theorem State.motion_stands {s : State} {p : Port} (h : (s.spindle p).arm = .unknown ∨ ∃ c, (s.spindle p).arm = .settled c) :
    s.motionDone p = s ∧ s.motionFailed p = s ∧ s.motionTimeout p = s := by
  rcases h with h | ⟨c, h⟩ <;> simp [State.motionDone, State.motionFailed, State.motionTimeout, h, Arm.timer]

theorem armEvent_stands {s : State} {p : Port} {effect : State → State}
    (h : (s.spindle p).state ≠ .ready ∨ effect s = s) : armEvent p effect s = s := by
  unfold armEvent
  split
  · next hready => exact h.resolve_left fun hnot => hnot hready
  · rfl

/-- R64: the arm's position lost and posted, before the owner is charged. -/
def State.seekLost (s : State) (p : Port) : State := (s.setArm p .unknown).post p eventArmLost

theorem State.seekLost_changes {s : State} {p : Port} (h : (s.spindle p).state = .ready) :
    s.seekLost p = { s with
      spindles := (s.seekLost p).spindles
      events := postInto p ⟨false, false, false, true, false⟩ .ready none s.events } ∧
    (s.seekLost p).spindle p = { s.spindle p with arm := .unknown } ∧
    ∀ q : Port, q ≠ p → (s.seekLost p).spindle q = s.spindle q := by
  obtain ⟨hframe, hrecord, hother⟩ := s.modSpindle_changes p fun r => { r with arm := .unknown }
  have hstate : ((s.setArm p .unknown).spindle p).state = .ready := (congrArg Spindle.state hrecord).trans h
  have hpost := State.post_eq (s := s.setArm p .unknown) (p := p) (by rw [hstate]; decide) eventArmLost
  rw [hstate] at hpost
  refine ⟨?_, ?_, fun q hq => ?_⟩
  · rw [State.seekLost, hpost]
    rfl
  · rw [State.seekLost, State.post_spindle]
    exact hrecord
  · rw [State.seekLost, State.post_spindle]
    exact hother q hq

theorem State.seekFailed_eq (s : State) (p : Port) (owner : Option Tag) :
    s.seekFailed p owner = ((s.seekLost p).chargeOwner owner).issueRestore p := rfl

/-- R65: a seek's owner charged. -/
theorem State.chargeOwner_absent {s : State} {owner : Option Tag} (h : ∀ t, owner = some t → s.request t = none) :
    s.chargeOwner owner = s := by
  cases owner with
  | none => rfl
  | some t => simp [State.chargeOwner, h t rfl]

theorem State.chargeOwner_spent {s : State} {t : Tag} {r : Request} (hr : s.request t = some r) (h : r.budget ≠ 0) :
    s.chargeOwner (some t) = { s with table := retrySpent t s.table } := by
  simp [State.chargeOwner, hr, h, State.spendRetry_eq]

theorem State.chargeOwner_exhausted {s : State} {t : Tag} {r : Request} (hr : s.request t = some r) (h : r.budget = 0) :
    s.chargeOwner (some t) = s.complete t .positionError none := by
  simp [State.chargeOwner, hr, h]

/-- Settles O34: the ends of motions by the arm they find. -/
theorem motionEnds : Obligations.MotionEnds := by
  unfold Obligations.MotionEnds
  refine fun s p hrun => ⟨fun i hi hstill => ?still, fun hready => ⟨fun c harm => ?settles, fun d harm => ?restoreFails,
    fun c owner d i now harm hi => ?seekFails⟩, fun hready => State.issueRestore_changes hready⟩
  case still =>
    have hstands {effect : State → State} (h : (s.spindle p).arm = .unknown ∨ (∃ c, (s.spindle p).arm = .settled c) → effect s = s) :
        armEvent p effect s = s := armEvent_stands (hstill.imp_right h)
    rcases hi with rfl | rfl | rfl
    · rw [exec_skd, event_none _ _ (hstands fun h => (State.motion_stands h).1)]
    · rw [exec_ske, event_none _ _ (hstands fun h => (State.motion_stands h).2.1)]
    · rw [exec_motionTimerExpiry, event_none _ _ (hstands fun h => (State.motion_stands h).2.2)]
  case settles =>
    refine ⟨s.setArm p (.settled c), ?_, s.modSpindle_changes p _⟩
    have heffect : s.motionDone p = s.setArm p (.settled c) := by
      rcases harm with ⟨⟨d, harm⟩, rfl⟩ | ⟨o, d, harm⟩ <;> simp only [State.motionDone, harm]
    rw [Taken, exec_skd, event_running _ _ hrun, armEvent_ready hready, heffect]
  case restoreFails =>
    have hfailed : s.motionFailed p = s.enterFaulted p .restoreFailed := by simp only [State.motionFailed, harm]
    have htimeout : s.motionTimeout p = (s.clockTo d).enterFaulted p .restoreFailed := by
      simp only [State.motionTimeout, State.motionFailed, State.clockTo_spindle, harm, Arm.timer]
    refine ⟨?_, ?_⟩
    · rw [Taken, exec_ske, event_running _ _ hrun, armEvent_ready hready, hfailed]
    · rw [Taken, exec_motionTimerExpiry, event_running _ _ hrun, armEvent_ready hready, htimeout]
      rfl
  case seekFails =>
    obtain ⟨u, hu⟩ : ∃ u : State, u = { s with now := now } := ⟨_, rfl⟩
    have hready' : (u.spindle p).state = .ready := by rw [hu]; exact hready
    have htaken : Taken i s (u.seekFailed p owner) := by
      rcases hi with ⟨rfl, rfl⟩ | ⟨rfl, rfl⟩
      · have hfailed : s.motionFailed p = s.seekFailed p owner := by simp only [State.motionFailed, harm]
        rw [Taken, exec_ske, event_running _ _ hrun, armEvent_ready hready, hfailed, hu]
      · have htimeout : s.motionTimeout p = (s.clockTo d).seekFailed p owner := by
          simp only [State.motionTimeout, State.motionFailed, State.clockTo_spindle, harm, Arm.timer]
        rw [Taken, exec_motionTimerExpiry, event_running _ _ hrun, armEvent_ready hready, htimeout, hu]
        rfl
    obtain ⟨hframe, hrecord, hother⟩ := State.seekLost_changes hready'
    have htable : (u.seekLost p).table = s.table := by rw [hframe, hu]
    have hrequest (t : Tag) : (u.seekLost p).request t = s.request t := State.request_congr htable t
    rw [State.seekFailed_eq] at htaken
    refine ⟨u.seekLost p, ?_, ?_, fun q hq => ?_, fun habsent => ?_, fun t r howner hr hbudget => ?_, fun t r howner hr hbudget => ?_⟩
    · refine hframe.trans ?_
      rw [hu]
    · refine hrecord.trans ?_
      rw [hu]
      rfl
    · refine (hother q hq).trans ?_
      rw [hu]
      rfl
    · rwa [State.chargeOwner_absent fun t ht => (hrequest t).trans (habsent t ht)] at htaken
    · rwa [howner, State.chargeOwner_spent ((hrequest t).trans hr) hbudget, htable] at htaken
    · rwa [howner, State.chargeOwner_exhausted ((hrequest t).trans hr) hbudget] at htaken

end Sys2Proof.Machine
end

section
/-! The messages of the Request Table: SUBMIT admitted (O36: R23, R72, R73, R80, R81, R84, R87, R89), WDATA (O37: R154 to R156) and CANCEL
(O38: R91 to R93, R143). -/

-- One declaration after another: elaborated in parallel, these files ask for more memory than a check has.
set_option Elab.async false

namespace Sys2Proof.Machine

/-! R81: an admission -/

/-- R76: the flags that legal fields name. -/
theorem parseSubmit_flags {m : SubmitFields} (h : SubmitLegal m) {t : Tag} {p : Port} {k : Kind} (ht : m.tag.toNat = t.val)
    (hp : m.spindle.toNat = p.val) (hk : kindByte k = m.kind) :
    parseSubmit m = some ⟨t, k, p,
      ⟨m.flags.getLsbD 0, m.flags.getLsbD 1, m.flags.getLsbD 2, m.flags.getLsbD 3, m.flags.getLsbD 4⟩,
      submitStart m, m.count.toNat, m.fill⟩ := by
  obtain ⟨-, -, -, -, hcount, hflags, htolerate, hverify, hfill⟩ := h
  have hkind : kindOf m.kind = some k := kindOf_eq_some_iff.mpr (by rw [hk])
  have hf := (parseFlags_eq m.flags).trans (if_pos hflags)
  exact parseSubmit_of_named (tagOf_eq_some_iff.mpr ht) hkind (portOf_eq_some_iff.mpr hp) hf
    ((submitRules_iff hkind hf).mpr ⟨hcount, htolerate, hverify, hfill⟩)

theorem admittedRequest_eq (s : State) (m : SubmitRequest) :
    admittedRequest s m = (newRequest s m).withHolds
      ⟨s.spindleHold m.spindle, barrierHold s.table (newRequest s m), noDataHold (newRequest s m), false⟩ := by
  simp [admittedRequest, Request.regrade, Request.withHolds, newRequest, Holds.held]

/-- R81 step 4: the record admitted, as Table 5-1 and R83 have it. -/
theorem admittedRequest_fields {s : State} {m : SubmitRequest} {g : Geometry} (hg : (s.spindle m.spindle).geometry = some g) :
    admittedRequest s m = Request.withHolds
      { tag := m.tag, kind := m.kind, spindle := m.spindle, start := m.start,
        count := if m.kind = .format then g.sectors else m.count, flags := m.flags, fill := m.fill, admitted := s.now,
        status := .held, holds := ⟨false, false, false, false⟩, next := m.start, done := 0, suspects := 0, firstSuspect := none,
        retries := 0, budget := if m.flags.noRetry then 0 else s.params.retryLimit, overdue := false, cancelPending := false,
        frontier := 0, staged := [], ageTimer := some (s.now + s.params.ageLimit * 1000) }
      ⟨!((s.spindle m.spindle).state == .ready && (s.spindle m.spindle).tracker.tracked),
        s.table.any (fun q => q.spindle == m.spindle && (m.flags.barrier || q.flags.barrier)), m.kind == .write, false⟩ := by
  have hnew : newRequest s m =
      { tag := m.tag, kind := m.kind, spindle := m.spindle, start := m.start,
        count := if m.kind = .format then g.sectors else m.count, flags := m.flags, fill := m.fill, admitted := s.now,
        status := .held, holds := ⟨false, false, false, false⟩, next := m.start, done := 0, suspects := 0, firstSuspect := none,
        retries := 0, budget := if m.flags.noRetry then 0 else s.params.retryLimit, overdue := false, cancelPending := false,
        frontier := 0, staged := [], ageTimer := some (s.now + s.params.ageLimit * 1000) } := by
    cases hkind : m.kind <;> simp [newRequest, hkind, freshBudget, millisUs, Spindle.sectors, hg]
  rw [admittedRequest_eq, hnew, State.spindleHold, barrierHold, noDataHold]
  simp

/-- R84: SPINDLE stands where it was evaluated so. -/
theorem Request.withHolds_spindleEvaluated {r : Request} (hr : r.status ≠ .active) {h : Holds} (p : Port) :
    (r.withHolds h).spindleEvaluated p h.spindle = r.withHolds h := by
  unfold Request.spindleEvaluated
  by_cases hp : r.spindle = p
  · simp [Request.withHolds, hr, hp]
  · simp [hp]

section
variable {s : State} {m : SubmitRequest} (htimers : s.TimersSound)
  (hstate : (s.spindle m.spindle).state = .parked ∨ (s.spindle m.spindle).state = .spinWait ∨
    (s.spindle m.spindle).state = .spinningUp ∨ (s.spindle m.spindle).state = .ready ∨ (s.spindle m.spindle).state = .spinningDown)
include htimers hstate

/-- R23, R81: an admission, its demand registered by the state of its spindle. -/
theorem State.admitRequest_changes :
    s.admitRequest m = { s with
      spindles := (s.admitRequest m).spindles
      waitList := if (s.spindle m.spindle).state = .parked then s.waitList ++ [m.spindle] else s.waitList
      table :=
        (if (s.spindle m.spindle).state = .parked then s.table.map (Request.spindleEvaluated m.spindle true) else s.table) ++
          [admittedRequest s m]
      events := if (s.spindle m.spindle).state = .parked then stateChangePosted m.spindle .spinWait none s.events else s.events } ∧
    (s.admitRequest m).spindle m.spindle = { s.spindle m.spindle with
      state := if (s.spindle m.spindle).state = .parked then .spinWait else (s.spindle m.spindle).state
      idleTimer := if (s.spindle m.spindle).state = .ready then none else (s.spindle m.spindle).idleTimer
      respin := if (s.spindle m.spindle).state = .spinningDown then true else (s.spindle m.spindle).respin } ∧
    ∀ q : Port, q ≠ m.spindle → (s.admitRequest m).spindle q = s.spindle q := by
  obtain ⟨u, hu⟩ : ∃ u, u = s.setTable (s.table ++ [admittedRequest s m]) := ⟨_, rfl⟩
  have hspindle (q : Port) : u.spindle q = s.spindle q := by rw [hu, State.setTable_spindle]
  have hadmit : s.admitRequest m = u.registerDemand m.spindle := by rw [hu]; rfl
  have hframe (f : Spindle → Spindle) : u.modSpindle m.spindle f = { s with
      spindles := (u.modSpindle m.spindle f).spindles, table := s.table ++ [admittedRequest s m] } := by rw [hu]; rfl
  have hrecord (f : Spindle → Spindle) := u.modSpindle_changes m.spindle f
  simp only [hspindle] at hrecord
  rw [hadmit]
  rcases hstate with h | h | h | h | h <;> simp only [State.registerDemand, hspindle, h, if_true, if_false, reduceCtorEq]
  case inl =>
    have hrest : (u.spindle m.spindle).state.spinning = false := by rw [hspindle, h]; rfl
    obtain ⟨hup, hdown⟩ := htimers.resting (p := m.spindle) (by rw [h]; rfl)
    refine ⟨?_, ?_, fun q hq => ?_⟩
    · have hsame : (admittedRequest s m).spindleEvaluated m.spindle true = admittedRequest s m := by
        have hhold : s.spindleHold m.spindle = true := by simp [State.spindleHold, h]
        rw [admittedRequest_eq, hhold]
        exact Request.withHolds_spindleEvaluated (by simp [newRequest]) m.spindle
      refine (u.joinWait_eq m.spindle).trans ?_
      rw [hu]
      simp only [State.setTable, List.map_append, List.map_cons, List.map_nil, hsame]
    · rw [State.joinWait_spindle_same, Spindle.enter_resting hrest (by rw [hspindle, hup]) (by rw [hspindle, hdown]), hspindle]
    · rw [State.joinWait_spindle_of_ne _ hq, hspindle]
  case inr.inl => exact ⟨by rw [hu]; rfl, by simp [← h], fun _ _ => trivial⟩
  case inr.inr.inl => exact ⟨by rw [hu]; rfl, by simp [← h], fun _ _ => trivial⟩
  case inr.inr.inr.inl => exact ⟨hframe _, by rw [(hrecord _).2.1]; simp [← h], (hrecord _).2.2⟩
  case inr.inr.inr.inr => exact ⟨hframe _, by rw [(hrecord _).2.1]; simp [← h], (hrecord _).2.2⟩

end

theorem submitRefusal_none {s : State} {q : SubmitRequest} (hfree : s.request q.tag = none)
    (hstate : stateRefusal (s.spindle q.spindle).state = none) (hfits : runFits (s.spindle q.spindle) q = true)
    (hwpr : q.kind = .write ∨ q.kind = .format → (s.spindle q.spindle).lines.wpr = false) : submitRefusal s q = none := by
  have hprotected : ((q.kind == .write || q.kind == .format) && (s.spindle q.spindle).lines.wpr) = false := by
    rw [Bool.and_eq_false_iff, Bool.or_eq_false_iff]
    by_cases hk : q.kind = .write ∨ q.kind = .format
    · exact .inr (hwpr hk)
    · simpa using .inl (not_or.mp hk)
  simp only [submitRefusal, hfree, hstate, hfits, hprotected]
  rfl

/-- Settles O36: `admittedRequest_fields` and `State.admitRequest_changes`. -/
theorem submitAdmitted : Obligations.SubmitAdmitted := by
  unfold Obligations.SubmitAdmitted
  intro s seq m t p g kind hcan hlegal ht hp hkind hfree hconfigured hpresent hsound hg hfits hwpr htimers
  have hparse := parseSubmit_flags hlegal ht hp hkind
  have hkindOf : kindOf m.kind = some kind := kindOf_eq_some_iff.mpr (by rw [hkind])
  have hcode (k : Kind) := toNat_eq_kindByte_iff hkindOf k
  obtain ⟨q, hq⟩ : ∃ q : SubmitRequest, q = ⟨t, kind, p,
    ⟨m.flags.getLsbD 0, m.flags.getLsbD 1, m.flags.getLsbD 2, m.flags.getLsbD 3, m.flags.getLsbD 4⟩,
    submitStart m, m.count.toNat, m.fill⟩ := ⟨_, rfl⟩
  have hqp : q.spindle = p := by rw [hq]
  have hqkind : q.kind = kind := by rw [hq]
  have hnone : submitRefusal s.popInbound q = none := by
    refine submitRefusal_none (by rw [hq]; exact hfree) ?_ ?_ fun hk => ?_
    · rw [hqp]
      exact stateRefusal_eq_none hconfigured hpresent hsound
    · rw [hqp]
      exact runFits_eq_true.mpr ⟨g, hg, by rw [hq]; exact (Geometry.fits_iff hlegal hkindOf g).mpr hfits⟩
    · rw [hqp]
      rw [hqkind] at hk
      exact hwpr (hk.imp (hcode .write).mpr (hcode .format).mpr)
  have hj : judgeSubmit m s.popInbound = accept (s.popInbound.admitRequest q) := by
    simp only [judgeSubmit, hparse, ← hq, hnone]
  have hstate : (s.popInbound.spindle q.spindle).state = .parked ∨ (s.popInbound.spindle q.spindle).state = .spinWait ∨
      (s.popInbound.spindle q.spindle).state = .spinningUp ∨ (s.popInbound.spindle q.spindle).state = .ready ∨
      (s.popInbound.spindle q.spindle).state = .spinningDown := by
    rw [hqp, s.popInbound_spindle p]
    cases hst : (s.spindle p).state <;> simp [hst] at hconfigured hpresent hsound ⊢
  have hfields := admittedRequest_fields (s := s.popInbound) (m := q) (g := g) (by rw [hqp]; exact hg)
  have hchanges := State.admitRequest_changes (s := s.popInbound) htimers hstate
  have hformat : (m.kind.toNat = 4) = (kind = .format) := propext (hcode .format)
  have hwrite : (m.kind.toNat == 2) = (kind == .write) :=
    Bool.eq_iff_iff.mpr (by rw [beq_iff_eq, beq_iff_eq]; exact hcode .write)
  refine ⟨_, admittedRequest s.popInbound q, handle_accept _ _ _ _ _ _ hcan hj, ?record, ?_⟩
  case record =>
    rw [hfields, hq, hwrite]
    simp only [hformat]
    rfl
  · rw [hqp] at hchanges
    exact hchanges

/-! R154 to R156: WDATA -/

/-- R156: a WDATA accepted. -/
theorem State.stage_eq (s : State) (t : Tag) (index : Nat) (payload : List Byte) :
    s.stage t index payload = { s with
      free := s.free - 1
      table := s.table.map fun q =>
        if q.tag = t then
          Request.withHolds { q with staged := q.staged ++ [⟨t, index, payload⟩], frontier := q.frontier + 1 }
            { q.holds with noData := false }
        else q } := by
  unfold State.stage State.modRequest State.setFree
  congr 1
  refine List.map_congr_left fun q _ => ?_
  split
  · dsimp only
    rw [Request.evaluate_eq]
    have hstaged : (q.staged ++ [Buffer.mk t index payload]).isEmpty = false := by simp
    simp only [noDataHold, hstaged, Bool.and_false]
  · rfl

section
variable {s : State} {m : WdataFields} {t : Tag} (ht : m.tag.toNat = t.val) (hindex : m.index.toNat ≤ 255)
include ht hindex

theorem judgeWdata_noSuchTag (h : s.request t = none) : judgeWdata m s = refuse .noSuchTag s := by
  simp only [judgeWdata, tagOf_eq_some_iff.mpr ht, Nat.not_lt.mpr hindex, if_false, h]

theorem judgeWdata_refused {r : Request} (h : s.request t = some r) {c : Code} (hc : wdataRefusal s r m.index.toNat = some c) :
    judgeWdata m s = refuse c s := by
  simp only [judgeWdata, tagOf_eq_some_iff.mpr ht, Nat.not_lt.mpr hindex, if_false, h, hc]

theorem judgeWdata_accepted {r : Request} (h : s.request t = some r) (hc : wdataRefusal s r m.index.toNat = none) :
    judgeWdata m s = accept (s.stage t m.index.toNat m.payload) := by
  simp only [judgeWdata, tagOf_eq_some_iff.mpr ht, Nat.not_lt.mpr hindex, if_false, h, hc]

end

theorem judgeWdata_badField {s : State} {m : WdataFields} (h : 31 < m.tag.toNat ∨ 255 < m.index.toNat) :
    judgeWdata m s = refuse .badField s := by
  unfold judgeWdata
  cases ht : tagOf m.tag with
  | none => rfl
  | some t =>
    have htag : ¬ 31 < m.tag.toNat := by
      rw [tagOf_eq_some_iff.mp ht]
      exact Nat.not_lt.mpr (Nat.lt_succ_iff.mp t.isLt)
    exact if_pos (h.resolve_left htag)

/-- Settles O37: the refusals of `wdataRefusal` in their order, and `State.stage_eq`. -/
theorem wdataJudged : Obligations.WdataJudged := by
  unfold Obligations.WdataJudged
  intro s seq m hcan
  have refused {c : Code} (hj : judgeWdata m s.popInbound = refuse c s.popInbound) : Refused (.wdata seq (.fields m)) s 0x02 seq c :=
    handle_refuse _ _ _ _ _ _ hcan hj
  refine ⟨fun h => refused (judgeWdata_badField h), fun t ht hindex => ⟨fun h => refused (judgeWdata_noSuchTag ht hindex h),
    fun r hr => ?_⟩⟩
  have hr' : s.popInbound.request t = some r := hr
  have hrefused {c : Code} (hc : wdataRefusal s.popInbound r m.index.toNat = some c) :
      Refused (.wdata seq (.fields m)) s 0x02 seq c := refused (judgeWdata_refused ht hindex hr' hc)
  refine ⟨fun hcancel => hrefused (by simp [wdataRefusal, hcancel]), fun hcancel =>
    ⟨fun hkind => hrefused (by simp [wdataRefusal, hcancel, hkind]),
    fun hkind => ⟨fun hwindow => hrefused ?window, fun hnext hmore hdepth => ⟨fun hpool => hrefused ?noBuffer,
      fun hpool hd => ?accepted⟩⟩⟩⟩
  case window =>
    have h : m.index.toNat ≠ r.frontier ∨ r.count ≤ m.index.toNat ∨ s.params.stageDepth ≤ r.staged.length := by
      rcases hwindow with h | h | h
      · exact .inl h
      · by_cases hsame : m.index.toNat = r.frontier
        · exact .inr (.inl (hsame ▸ h))
        · exact .inl hsame
      · exact .inr (.inr h)
    simp [wdataRefusal, hcancel, hkind, h]
  all_goals have hin : ¬ (m.index.toNat ≠ r.frontier ∨ r.count ≤ m.index.toNat ∨ s.params.stageDepth ≤ r.staged.length) := by omega
  case noBuffer => simp [wdataRefusal, hcancel, hkind, hin, hpool]
  case accepted =>
    have hnone : wdataRefusal s.popInbound r m.index.toNat = none := by
      simp [wdataRefusal, hcancel, hkind, hin, Nat.not_le.mpr hpool]
    have hj := judgeWdata_accepted ht hindex hr' hnone
    rw [State.stage_eq] at hj
    exact handle_accept _ _ _ _ _ _ hcan hj

/-! R91 to R93: CANCEL -/

section
variable {s : State} {b : Byte} {t : Tag} (ht : b.toNat = t.val)
include ht

theorem judgeCancel_noSuchTag (h : s.request t = none) : judgeCancel b s = refuse .noSuchTag s := by
  simp only [judgeCancel, tagOf_eq_some_iff.mpr ht, h]

theorem judgeCancel_pending {r : Request} (h : s.request t = some r) :
    judgeCancel b s = if r.cancelPending then refuse .cancelling s else accept (s.cancel r) := by
  simp only [judgeCancel, tagOf_eq_some_iff.mpr ht, h]

end

theorem judgeCancel_badField {s : State} {b : Byte} (h : 31 < b.toNat) : judgeCancel b s = refuse .badField s := by
  have hnone : tagOf b = none := by
    cases ht : tagOf b with
    | none => rfl
    | some t =>
      rw [tagOf_eq_some_iff.mp ht] at h
      exact absurd h (Nat.not_lt.mpr (Nat.lt_succ_iff.mp t.isLt))
  simp only [judgeCancel, hnone]

theorem State.cancel_waiting {s : State} {r : Request} (h : r.status ≠ .active) : s.cancel r = s.complete r.tag .cancelled none := by
  cases hs : r.status <;> simp [hs] at h <;> simp only [State.cancel, hs]

/-- R93: cancel pending set on the request of a tag. -/
def State.cancelSet (s : State) (t : Tag) : State := s.modRequest t fun q => { q with cancelPending := true }

section
variable {s : State} {r : Request} {e : Engagement} (hactive : r.status = .active) (hchan : s.chan = some e) (htag : e.tag = r.tag)
include hactive hchan htag

/-- R143: the channel's act on a cancel, by its phase. -/
theorem State.cancel_engaged :
    s.cancel r =
      if e.phase = .search ∨ e.phase = .formatWait then (s.cancelSet r.tag).complete r.tag .cancelled none
      else if e.phase = .formatWrite false then ((s.cancelSet r.tag).withSectorDone r.tag).complete r.tag .cancelled none
      else s.cancelSet r.tag := by
  have hset : (s.cancelSet r.tag).chan = some e := hchan
  simp only [State.cancel, hactive]
  change (s.cancelSet r.tag).cancelNow r.tag = _
  simp only [State.cancelNow, hset, htag, if_true, State.countSector_eq]
  rcases hphase : e.phase with _ | _ | _ | _ | _ | _ | (_ | _) <;> simp

end

/-- Settles O38: `State.cancel_engaged` for the ACTIVE request. -/
theorem cancelJudged : Obligations.CancelJudged := by
  unfold Obligations.CancelJudged
  intro s seq b hcan
  have refused {c : Code} (hj : judgeCancel b s.popInbound = refuse c s.popInbound) : Refused (.cancel seq (.fields b)) s 0x03 seq c :=
    handle_refuse _ _ _ _ _ _ hcan hj
  refine ⟨fun h => refused (judgeCancel_badField h), fun t ht => ⟨fun h => refused (judgeCancel_noSuchTag ht h), fun r hr => ?_⟩⟩
  have hj := judgeCancel_pending (s := s.popInbound) ht hr
  have htag := State.request_tag hr
  refine ⟨fun hcancel => refused (by rw [hj, if_pos hcancel]), fun hcancel => ?_⟩
  rw [hcancel, if_neg Bool.false_ne_true] at hj
  have accepted {v : State} (hv : s.popInbound.cancel r = v) : Accepted (.cancel seq (.fields b)) s 0x03 seq v :=
    handle_accept _ _ _ _ _ _ hcan (hv ▸ hj)
  refine ⟨fun hwaits => accepted (by rw [State.cancel_waiting hwaits, htag]), fun e hactive he het => ⟨s.popInbound.cancelSet t, rfl, ?_⟩⟩
  have hengaged := State.cancel_engaged (s := s.popInbound) hactive he (het.trans htag.symm)
  rw [htag] at hengaged
  refine ⟨fun hphase => accepted (by rw [hengaged, if_pos hphase]), fun hphase => accepted ?_,
    fun h1 h2 h3 => accepted (by rw [hengaged, if_neg (not_or.mpr ⟨h1, h2⟩), if_neg h3])⟩
  rw [hengaged, if_neg (by simp [hphase]), if_pos hphase]

end Sys2Proof.Machine
end

section
/-! The Channel's own events: header reads (O43: R123, R125 to R131, R136, R139, R143) and the ends of data fields and format slots (O44,
O45, O48, O49: R10, R11, R131 to R133, R140 to R143, R149). -/

-- One declaration after another: elaborated in parallel, these files ask for more memory than a check has.
set_option Elab.async false

namespace Sys2Proof.Machine

theorem exec_headerRead (slot : Nat) (read : HeaderRead) (s : State) :
    exec (.headerRead slot read) s = event s fun u => u.headerRead slot read := rfl

theorem exec_dataFieldEnd (read : FieldRead) (s : State) : exec (.dataFieldEnd read) s = event s fun u => u.dataFieldEnd read := rfl

theorem exec_formatSlotWritten (s : State) : exec .formatSlotWritten s = event s State.formatSlotWritten := rfl

/-! R126, R139: a header judged -/

section
variable {target : Addr} {h : Option (Word × Word × Word)}

theorem judgeHeader_passed
    (hpassed : ∀ a, classifyHeader h = .formatted a →
      a.cylinder = target.cylinder ∧ a.surface = target.surface ∧ a.sector ≠ target.sector) : judgeHeader target h = .passed := by
  unfold judgeHeader
  split
  · next a w0 _ _ hformatted =>
    obtain ⟨hcylinder, hsurface, hsector⟩ := hpassed a hformatted
    simp [hcylinder, hsurface, hsector]
  · rfl

theorem judgeHeader_misplaced {a : Addr} (hformatted : classifyHeader h = .formatted a)
    (haway : a.cylinder ≠ target.cylinder ∨ a.surface ≠ target.surface) : judgeHeader target h = .misplaced := by
  cases h with
  | none => cases hformatted
  | some w => simp only [judgeHeader, hformatted, haway, if_true]

theorem judgeHeader_matched {w0 w1 w2 : Word} (hread : h = some (w0, w1, w2))
    (hformatted : classifyHeader h = .formatted ⟨target.cylinder, target.surface, target.sector⟩) :
    judgeHeader target h = .matched w0 := by
  subst hread
  simp [judgeHeader, hformatted]

end

/-- An event that changes the Channel's record alone, the Channel engaged as before. -/
theorem settle_chan {s : State} (h : s.chan.isSome = true) (e : Engagement) :
    settle s { s with chan := some e } = { s with chan := some e } :=
  settle_calm ⟨fun _ => rfl, fun _ => rfl, fun _ => rfl, rfl, rfl, h.symm, rfl, rfl, rfl, rfl⟩ rfl rfl rfl rfl rfl

section
variable {s u : State} {e : Engagement} (hchan : s.chan = some e) (slot : Nat)
include hchan

theorem State.slotRead_eq : s.slotRead = { s with chan := some { e with slotMarked := false } } := State.modChan_eq hchan _

theorem State.noteJudged_eq (last : Bool) : s.noteJudged last = { s with chan := some { e with lastJudged := last } } :=
  State.modChan_eq hchan _

theorem State.setPhase_eq (ph : Phase) : s.setPhase ph = { s with chan := some { e with phase := ph } } := State.modChan_eq hchan _

theorem State.headerRead_search (hmarked : e.slotMarked = true) (hphase : e.phase = .search) (read : HeaderRead) :
    s.headerRead slot read = s.slotRead.searchHeader e slot (s.headerAt e slot read) := by
  simp only [State.headerRead, hchan, hmarked, hphase, if_true]

theorem State.headerRead_pass (hmarked : e.slotMarked = true) (hphase : e.phase = .pass none) (read : HeaderRead) :
    s.headerRead slot read = s.slotRead.passHeader e slot (s.headerAt e slot read) := by
  simp only [State.headerRead, hchan, hmarked, hphase, if_true]

theorem State.searchFailed_search (hphase : e.phase = .search) : s.searchFailed = s.endWith .searchFailure := by
  simp only [State.searchFailed, hchan, hphase]

theorem State.searchFailed_pass {reading : Option (Word × Nat)} (hphase : e.phase = .pass reading) :
    s.searchFailed = s.complete e.tag .sectorNotFound none := by
  simp only [State.searchFailed, hchan, hphase]

end

/-- R123, R125, R139: the header reads that are not taken. -/
theorem State.headerRead_stands {s : State} (slot : Nat) (read : HeaderRead)
    (h : s.chan = none ∨ ∃ e, s.chan = some e ∧ (e.slotMarked = false ∨ (e.phase ≠ .search ∧ e.phase ≠ .pass none))) :
    s.headerRead slot read = s := by
  unfold State.headerRead
  rcases h with hnone | ⟨e, he, hmarked | ⟨hsearch, hpass⟩⟩
  · rw [hnone]
  · simp only [he, hmarked, Bool.false_eq_true, if_false]
  · simp only [he]
    split <;> rfl

/-- R126: a header passed over, at the revolution limit as the last one. -/
theorem State.passOver_below {s : State} {e : Engagement} (h : e.searchIndex < s.params.revLimit) : s.passOver e = s := by
  simp [State.passOver, State.limitReached, Nat.not_le.mpr h]

theorem State.passOver_last {s : State} {e : Engagement} (h : s.params.revLimit ≤ e.searchIndex) : s.passOver e = s.searchFailed := by
  simp [State.passOver, State.limitReached, h]

section
variable {s : State} {e x : Engagement} {r : Request} (hr : s.request e.tag = some r) (hchan : s.chan = some x) (w0 : Word) (slot : Nat)
include hr

/-- R130: a WRITE at a unit with WPR asserted. -/
theorem State.beginData_protected (hkind : r.kind = .write) (hwpr : (s.spindle e.spindle).lines.wpr = true) :
    s.beginData e w0 slot = s.endWith .writeProtected := by
  simp only [State.beginData, hr, hkind, State.beginWrite, hwpr, if_true]

include hchan

/-- R129: a READ takes a buffer, and is released for want of one. -/
theorem State.beginData_read (hkind : r.kind = .read) :
    s.beginData e w0 slot =
      if s.free = 0 then s.release e.tag true
      else { s with free := s.free - 1, chan := some { x with phase := .readField w0 slot } } := by
  have hfree : (s.setFree (s.free - 1)).chan = some x := hchan
  simp only [State.beginData, hr, hkind, State.beginRead, State.setPhase_eq hfree]
  rfl

theorem State.beginData_verify (hkind : r.kind = .verify) :
    s.beginData e w0 slot = { s with chan := some { x with phase := .verifyField w0 slot } } := by
  simp only [State.beginData, hr, hkind, State.setPhase_eq hchan]

/-- R130: a WRITE takes its staged head, with WPR deasserted. -/
theorem State.beginData_write {b : Buffer} {rest : List Buffer} (hkind : r.kind = .write)
    (hwpr : (s.spindle e.spindle).lines.wpr = false) (hstaged : r.staged = b :: rest) :
    s.beginData e w0 slot = { s with
      chan := some { x with phase := .writeField w0 slot b }
      table := s.table.map fun q => if q.tag = e.tag then { q with staged := rest } else q } := by
  have htaken : (s.modRequest e.tag fun q => { q with staged := rest }).chan = some x := hchan
  simp only [State.beginData, hr, hkind, State.beginWrite, hwpr, hstaged, State.setPhase_eq htaken]
  rfl

end

section
variable {s : State} {e : Engagement} {slot : Nat} {h : Option (Word × Word × Word)}

theorem State.searchHeader_passed (hj : judgeHeader e.target h = .passed) : s.searchHeader e slot h = s.passOver e := by
  simp only [State.searchHeader, hj]

theorem State.searchHeader_misplaced (hj : judgeHeader e.target h = .misplaced) :
    s.searchHeader e slot h = s.endWith .positionError := by
  simp only [State.searchHeader, hj]

theorem State.searchHeader_matched {w0 : Word} (hj : judgeHeader e.target h = .matched w0) :
    s.searchHeader e slot h = s.beginData e w0 slot := by
  simp only [State.searchHeader, hj]

theorem State.passHeader_cancelled {r : Request} (hr : s.request e.tag = some r) (hcancel : r.cancelPending = true) :
    s.passHeader e slot h = s.complete e.tag .cancelled none := by
  simp [State.passHeader, State.cancelling, hr, hcancel]

theorem State.passHeader_judgedLast {r : Request} (hr : s.request e.tag = some r) (hcancel : r.cancelPending = false)
    (hlimit : s.params.revLimit ≤ e.searchIndex) (hlast : e.lastJudged = true) : s.passHeader e slot h = s.searchFailed := by
  simp [State.passHeader, State.cancelling, State.limitReached, hr, hcancel, hlimit, hlast]

theorem State.passHeader_judged {r : Request} (hr : s.request e.tag = some r) (hcancel : r.cancelPending = false)
    (hmore : e.searchIndex < s.params.revLimit ∨ e.lastJudged = false) :
    s.passHeader e slot h = (s.noteJudged (decide (s.params.revLimit ≤ e.searchIndex))).judgePass e slot h := by
  have hnotLast : (s.limitReached e && e.lastJudged) = false := by
    rcases hmore with h | h
    · simp [State.limitReached, Nat.not_le.mpr h]
    · simp [h]
  simp only [State.passHeader, State.cancelling, hr, Option.any_some, hcancel, hnotLast, Bool.false_eq_true, if_false]
  rfl

end

/-- Settles O43: `judgeHeader` for what a header is to the search, and the beginning of the data phase by kind. -/
theorem headerReads : Obligations.HeaderReads := by
  unfold Obligations.HeaderReads
  intro s slot read hrun
  refine ⟨fun hnot => ?_, fun e r h u he hr hmarked hu hh => ?_⟩
  · rw [exec_headerRead, event_none _ _ (State.headerRead_stands slot read hnot)]
  have hread : s.headerAt e slot read = h := by rw [hh]; cases read <;> rfl
  have hslot : s.slotRead = u := by rw [State.slotRead_eq he, hu]
  have huchan : u.chan = some { e with slotMarked := false } := by rw [hu]
  have hur : u.request e.tag = some r := by rw [hu]; exact hr
  have huparams : u.params = s.params := by rw [hu]
  have hsettle (x : Engagement) : settle s { s with chan := some x } = { s with chan := some x } := settle_chan (by rw [he]; rfl) x
  refine ⟨fun hphase => ?_, fun hphase => ?_⟩
  case refine_1 =>
    have hexec : exec (.headerRead slot read) s = .next (settle s (u.searchHeader e slot h)) := by
      rw [exec_headerRead, event_running _ _ hrun, State.headerRead_search he slot hmarked hphase, hslot, hread]
    have taken {v : State} (hv : u.searchHeader e slot h = v) : Taken (.headerRead slot read) s v := by rw [Taken, hexec, hv]
    refine ⟨fun hpassed => ?passed, fun a ha haway => ?misplaced, fun w0 w1 w2 hw hformatted => ?matched⟩
    case passed =>
      have hsearch := State.searchHeader_passed (s := u) (slot := slot) (judgeHeader_passed hpassed)
      refine ⟨fun hbelow => ?_, fun hlast => taken ?_⟩
      · rw [hexec, hsearch, State.passOver_below (by rwa [huparams]), hu, hsettle]
      · rw [hsearch, State.passOver_last (by rwa [huparams]), State.searchFailed_search huchan hphase]
    case misplaced => exact taken (State.searchHeader_misplaced (judgeHeader_misplaced ha haway))
    case matched =>
      have hbegin := State.searchHeader_matched (s := u) (slot := slot) (judgeHeader_matched hw hformatted)
      have hfree : u.free = s.free := by rw [hu]
      refine ⟨fun hkind hempty => taken ?_, fun hkind hfull => taken ?_, fun hkind => taken ?_, fun hkind hwpr => taken ?_,
        fun b rest hkind hwpr hstaged => taken ?_⟩
      · rw [hbegin, State.beginData_read hur huchan w0 slot hkind, if_pos (hfree.trans hempty)]
      · rw [hbegin, State.beginData_read hur huchan w0 slot hkind, if_neg (fun hzero => hfull (hfree.symm.trans hzero)), hfree]
      · rw [hbegin, State.beginData_verify hur huchan w0 slot hkind]
      · rw [hbegin, State.beginData_protected hur w0 slot hkind (by rw [hu]; exact hwpr)]
      · rw [hbegin, State.beginData_write hur huchan w0 slot hkind (by rw [hu]; exact hwpr) hstaged, hu]
  case refine_2 =>
    have hexec : exec (.headerRead slot read) s = .next (settle s (u.passHeader e slot h)) := by
      rw [exec_headerRead, event_running _ _ hrun, State.headerRead_pass he slot hmarked hphase, hslot, hread]
    have taken {v : State} (hv : u.passHeader e slot h = v) : Taken (.headerRead slot read) s v := by rw [Taken, hexec, hv]
    refine ⟨fun hcancel => taken (State.passHeader_cancelled hur hcancel), fun hcancel hlimit hlast => taken ?judged,
      fun hcancel hmore j hj => ?_⟩
    case judged =>
      rw [State.passHeader_judgedLast hur hcancel (by rwa [huparams]) hlast, State.searchFailed_pass huchan hphase]
    have hjudge : u.passHeader e slot h = j.judgePass e slot h := by
      rw [State.passHeader_judged hur hcancel (by rwa [huparams]), State.noteJudged_eq huchan, hj, hu]
    have hjchan : j.chan = some { e with slotMarked := false, lastJudged := decide (s.params.revLimit ≤ e.searchIndex) } := by rw [hj]
    have hjparams : j.params = s.params := by rw [hj]
    refine ⟨fun hpassed => ?passed, fun a ha haway => taken ?misplaced, fun w0 w1 w2 hw hformatted => taken ?matched⟩
    case passed =>
      have hpass : j.judgePass e slot h = j.passOver e := by simp only [State.judgePass, judgeHeader_passed hpassed]
      refine ⟨fun hbelow => ?_, fun hlast => taken ?_⟩
      · rw [hexec, hjudge, hpass, State.passOver_below (by rwa [hjparams]), hj, hsettle]
      · rw [hjudge, hpass, State.passOver_last (by rwa [hjparams]), State.searchFailed_pass hjchan hphase]
    case misplaced =>
      rw [hjudge]
      simp only [State.judgePass, judgeHeader_misplaced ha haway, State.passPositionError]
    case matched =>
      have hpass : j.judgePass e slot h = j.setPhase (.pass (some (w0, slot))) := by
        simp only [State.judgePass, judgeHeader_matched hw hformatted]
      rw [hjudge, hpass, State.setPhase_eq hjchan, hj]

end Sys2Proof.Machine
end

section
/-! The ends of data fields and format slots (O44, O45, O48, O49: R10, R11, R131 to R133, R140 to R143, R149). -/

-- One declaration after another: elaborated in parallel, these files ask for more memory than a check has.
set_option Elab.async false

namespace Sys2Proof.Machine

theorem Engagement.place_eq (e : Engagement) (slot : Nat) : e.place slot = placeKey e.spindle e.target.cylinder e.surface slot := rfl

/-- R132: a field read with the check word that R6 gives. -/
theorem checkGood_iff (field : List Word × Option Word) (w0 : Word) :
    checkGood field w0 = true ↔ field.2 = some (checkWord field.1 w0) := by
  simp [checkGood]

/-- A change of the requests that keeps their tags changes what each tag finds. -/
theorem State.request_map {s u : State} {f : Request → Request} (htable : u.table = s.table.map f) (hf : ∀ r, (f r).tag = r.tag)
    (t : Tag) : u.request t = (s.request t).map f := by
  simp only [State.request, htable, List.find?_map, Function.comp_def, hf]

/-- R133: the engaged request once its sector is counted. -/
theorem State.request_counted {s u : State} {t : Tag} {r : Request} (hr : s.request t = some r)
    (htable : u.table = s.table.map (s.sectorCounted t)) : u.request t = some (s.sectorCounted t r) := by
  rw [State.request_map htable (fun q => by unfold State.sectorCounted; split <;> rfl), hr, Option.map_some]

/-- R133: what a sector counted leaves of its request. -/
theorem State.sectorCounted_eq {s : State} {t : Tag} {r : Request} (h : r.tag = t) :
    s.sectorCounted t r =
      { r with
        done := r.done + 1
        next := s.addressAfter r.spindle r.next
        budget := if r.flags.noRetry then 0 else s.params.retryLimit } :=
  if_pos h

section
variable {s : State} {e : Engagement} {r : Request} (hchan : s.chan = some e) (hr : s.request e.tag = some r)
include hchan

/-! ### R132: data fields read for READ and VERIFY -/

theorem State.sectorRead_eq :
    s.sectorRead e =
      (State.withSectorDone
        { s with chan := some { e with index := e.index + 1, burst := e.burst + 1, phase := .search } } e.tag).afterSector false := by
  rw [State.sectorRead, State.modChan_eq hchan, State.countSector_eq]
  rfl

theorem State.retrySector_eq :
    s.retrySector e = State.afterSector
      { s with
        chan := some { e with phase := .search }
        free := s.free + e.phase.buffers
        table := retrySpent e.tag (s.table.map (Request.afterReturn e.phase.buffers)) } true := by
  rw [State.retrySector, State.setPhase_eq hchan, State.returnBuffers_eq, State.spendRetry_eq]

/-! ### R130, R133: data fields written -/

omit hchan in
/-- R10: the slot's data words and check word are the buffer's, and every other slot stands. -/
theorem State.writeSector_media (w0 : Word) (slot : Nat) (b : Buffer) (k : Nat) :
    mediaRead (s.writeSector e w0 slot b).media k =
      if k = placeKey e.spindle e.target.cylinder e.surface slot then
        { mediaRead s.media k with
          gap := true, data := wordsOfBytes b.payload, check := some (checkWord (wordsOfBytes b.payload) w0), trailing := true }
      else mediaRead s.media k := by
  rw [State.writeSector, mediaRead_write, Engagement.place_eq]
  by_cases hk : placeKey e.spindle e.target.cylinder e.surface slot = k
  · rw [if_pos hk, if_pos hk.symm, hk]
    rfl
  · rw [if_neg hk, if_neg (Ne.symm hk)]

theorem State.pendSector_eq (w0 : Word) (b : Buffer) :
    s.pendSector e w0 b = { s with chan := some { e with
      index := e.index + 1, burst := e.burst + 1, phase := .search
      pending := e.pending ++ [⟨e.index, b, checkWord (wordsOfBytes b.payload) w0⟩] } } := by
  rw [State.pendSector, State.modChan_eq hchan]
  rfl

theorem State.countWritten_eq :
    s.countWritten e = { s.withSectorDone e.tag with
      chan := some { e with index := e.index + 1, burst := e.burst + 1, phase := .search }
      free := s.free + 1
      table := (s.withSectorDone e.tag).table.map (Request.afterReturn 1) } := by
  rw [State.countWritten, State.modChan_eq hchan, State.countSector_eq, State.returnBuffers_eq]
  rfl

/-! ### R140, R141: data fields read in the verify pass -/

omit hchan in
theorem State.cleanPass_eq {ending : Ending} (hdeferred : e.deferred = some ending) (x : Engagement) {u : State}
    (huchan : u.chan = some x) :
    u.cleanPass e r =
      State.carryOut { u with chan := some { x.searching (u.addressOfIndex r e.index) with deferred := none } } e ending := by
  simp only [State.cleanPass, State.modChan_eq huchan, hdeferred, State.runAddress_eq, Engagement.searchFor_eq]

end

/-- R140, R141: a pending sector found as written is counted, and its buffer returns. -/
def State.entryCounted (s : State) (e : Engagement) (rest : List PendingEntry) : State :=
  State.withSectorDone { s with
    chan := some { e with pending := rest, phase := .pass none }
    free := s.free + 1
    table := s.table.map (Request.afterReturn 1) } e.tag

theorem State.addressOfIndex_congr {s u : State} {r q : Request} (hspindles : u.spindles = s.spindles) (hspindle : q.spindle = r.spindle)
    (hstart : q.start = r.start) (k : Nat) : u.addressOfIndex q k = s.addressOfIndex r k := by
  simp only [State.addressOfIndex, State.spindle_congr hspindles, hspindle, hstart]

section
variable {s : State} {e : Engagement} {r : Request} (hchan : s.chan = some e) (hr : s.request e.tag = some r)
  (rest : List PendingEntry)
include hchan hr

/-- R141, R143: what follows a pending sector found as written. -/
theorem State.entryGood_eq :
    ∃ q : Request, (s.entryCounted e rest).request e.tag = some q ∧ q.cancelPending = r.cancelPending ∧ q.spindle = r.spindle ∧
      q.start = r.start ∧
      s.entryGood e rest =
        if r.cancelPending then (s.entryCounted e rest).complete e.tag .cancelled none
        else
          match rest with
          | second :: _ => { s.entryCounted e rest with chan := some { e with
              pending := rest, phase := .pass none, target := s.addressOfIndex r second.index } }
          | [] => (s.entryCounted e rest).cleanPass e q := by
  obtain ⟨returned, hreturned⟩ : ∃ u : State, u = { s with
      chan := some { e with pending := rest, phase := .pass none }
      free := s.free + 1
      table := s.table.map (Request.afterReturn 1) } := ⟨_, rfl⟩
  have hu : s.entryCounted e rest = returned.withSectorDone e.tag := by rw [hreturned, State.entryCounted]
  have hreturnedRequest : returned.request e.tag = some (r.afterReturn 1) := by
    rw [State.request_map (s := s) (by rw [hreturned]) (Request.afterReturn_tag 1), hr, Option.map_some]
  have hrequest := State.request_counted (u := s.entryCounted e rest) hreturnedRequest (by rw [hu]; rfl)
  have htag : (r.afterReturn 1).tag = e.tag := by rw [Request.afterReturn_tag, State.request_tag hr]
  rw [State.sectorCounted_eq htag] at hrequest
  have hreturn : (r.afterReturn 1).unjudged = r.unjudged := by simp
  have hcancel : (r.afterReturn 1).cancelPending = r.cancelPending := (congrArg Request.cancelPending hreturn :)
  have hspindle : (r.afterReturn 1).spindle = r.spindle := (congrArg Request.spindle hreturn :)
  have hstart : (r.afterReturn 1).start = r.start := (congrArg Request.start hreturn :)
  obtain ⟨q, hq, hqcancel, hqspindle, hqstart⟩ : ∃ q, (s.entryCounted e rest).request e.tag = some q ∧
      q.cancelPending = r.cancelPending ∧ q.spindle = r.spindle ∧ q.start = r.start := ⟨_, hrequest, hcancel, hspindle, hstart⟩
  refine ⟨q, hq, hqcancel, hqspindle, hqstart, ?_⟩
  have hchanCounted : (s.entryCounted e rest).chan = some { e with pending := rest, phase := .pass none } := rfl
  have hspindles : (s.entryCounted e rest).spindles = s.spindles := rfl
  have hcounted : ((s.modChan fun x => { x with pending := rest, phase := .pass none }).returnBuffers 1).countSector e.tag =
      s.entryCounted e rest := by
    rw [State.modChan_eq hchan, State.returnBuffers_eq, State.countSector_eq]
    rfl
  simp only [State.entryGood, hcounted, hq, hqcancel]
  cases rest with
  | nil => rfl
  | cons second more =>
    simp only [State.modChan_eq hchanCounted, State.runAddress_eq]
    rw [State.addressOfIndex_congr (u := s.entryCounted e (second :: more)) hspindles (r := r) hqspindle hqstart]

end

/-- Settles O44: R132's cases, by the check word read and the budget left. -/
theorem readFieldEnds : Obligations.ReadFieldEnds := by
  unfold Obligations.ReadFieldEnds
  intro s read e r w0 slot data check hrun hchan hr hphase hfield
  have hread : s.fieldAt e slot read = (data, check) := by rw [hfield]; cases read <;> rfl
  have hend : exec (.dataFieldEnd read) s = .next (settle s (s.readEnd e r w0 (data, check))) := by
    rw [exec_dataFieldEnd, event_running _ _ hrun]
    rcases hphase with hphase | hphase <;> simp only [State.dataFieldEnd, hchan, hr, hphase, hread]
  have taken {v : State} (hv : s.readEnd e r w0 (data, check) = v) : Taken (.dataFieldEnd read) s v := by rw [Taken, hend, hv]
  have hbad (h : check ≠ some (checkWord data w0)) : ¬ checkGood (data, check) w0 = true := by rwa [checkGood_iff]
  refine ⟨fun delivered hdelivered => ?_, fun hfailed hbudget => taken ?_, fun hfailed hbudget htolerate => taken ?_⟩
  case refine_2 => rw [State.readEnd, if_neg (hbad hfailed), if_pos hbudget, State.retrySector_eq hchan]
  case refine_3 =>
    rw [State.readEnd, if_neg (hbad hfailed), if_neg (Classical.not_not.mpr hbudget), htolerate, if_neg Bool.false_ne_true]
  have hstream (suspect : Bool) : s.deliverRead e data suspect = { s with
      stream :=
        if e.phase = .readField w0 slot then
          s.stream ++ [.rdata ⟨e.tag, e.index, bytesOfWords data⟩ e.spindle e.target suspect]
        else s.stream } := by
    rcases hphase with hphase | hphase <;> simp [State.deliverRead, State.deliver, hphase]
  refine ⟨fun hgood => taken ?_, fun hfailed hbudget htolerate => taken ?_⟩
  · rw [State.readEnd, if_pos ((checkGood_iff _ _).mpr hgood), hstream, State.sectorRead_eq (e := e) (by exact hchan), hdelivered]
  · rw [State.readEnd, if_neg (hbad hfailed), if_neg (Classical.not_not.mpr hbudget), if_pos htolerate, hstream,
      State.sectorRead_eq (e := e) (by exact hchan), hdelivered]
    rfl

/-- Settles O45: the written slot by `State.writeSector_media`, then the stop, VERIFY_AFTER and the count. -/
theorem writeFieldEnds : Obligations.WriteFieldEnds := by
  unfold Obligations.WriteFieldEnds
  intro s read e r w0 slot b hrun hchan hr hphase
  have hend : exec (.dataFieldEnd read) s = .next (settle s (s.writeEnd e r w0 slot b)) := by
    rw [exec_dataFieldEnd, event_running _ _ hrun]
    simp only [State.dataFieldEnd, hchan, hr, hphase]
  have taken {v : State} (hv : s.writeEnd e r w0 slot b = v) : Taken (.dataFieldEnd read) s v := by rw [Taken, hend, hv]
  have hwritten : (s.writeSector e w0 slot b).chan = some e := hchan
  refine ⟨s.writeSector e w0 slot b, rfl, State.writeSector_media w0 slot b, fun hstop => taken ?_, fun hstop hverify => taken ?_,
    fun hstop hverify => taken ?_⟩
  · rw [State.writeEnd, if_pos hstop, State.stopChannel, State.closeChannel_eq hwritten]
  · rw [State.writeEnd, if_neg (Bool.eq_false_iff.mp hstop), if_pos hverify, State.pendSector_eq hwritten]
  · rw [State.writeEnd, if_neg (Bool.eq_false_iff.mp hstop), if_neg (Bool.eq_false_iff.mp hverify), State.countWritten_eq hwritten]
    rfl

/-- Settles O48: R140's comparison of the three check words, then `State.entryGood_eq`. -/
theorem verifyPass : Obligations.VerifyPass := by
  unfold Obligations.VerifyPass
  intro s read e r w0 slot data check entry rest hrun hchan hr _ hphase hpending hfield
  have hread : s.fieldAt e slot read = (data, check) := by rw [hfield]; cases read <;> rfl
  have hend : exec (.dataFieldEnd read) s = .next (settle s (s.passEnd e w0 (data, check))) := by
    rw [exec_dataFieldEnd, event_running _ _ hrun]
    simp only [State.dataFieldEnd, hchan, hr, hphase, hread]
  have taken {v : State} (hv : s.passEnd e w0 (data, check) = v) : Taken (.dataFieldEnd read) s v := by rw [Taken, hend, hv]
  refine ⟨fun hstop => taken ?_, fun hstop => ⟨fun hdiffer => taken ?_, fun hstored hsame => ?_⟩⟩
  · rw [State.passEnd, if_pos hstop, State.stopChannel, State.closeChannel_eq hchan]
  · simp only [State.passEnd, hstop, hpending, checkGood_iff, if_neg hdiffer, Bool.false_eq_true, if_false]
  have hgood : s.passEnd e w0 (data, check) = s.entryGood e rest := by
    simp only [State.passEnd, hstop, hpending, checkGood_iff, hstored, hsame, and_self, if_true, Bool.false_eq_true, if_false]
  obtain ⟨q, -, -, hspindle, hstart, hentry⟩ := State.entryGood_eq hchan hr rest
  refine ⟨s.entryCounted e rest, rfl, fun hcancel => taken ?_, fun hcancel => ⟨fun second more hmore => taken ?_,
    fun ending hlast hdeferred => taken ?_⟩⟩
  · rw [hgood, hentry, if_pos hcancel]
  · subst hmore
    rw [hgood, hentry, if_neg (Bool.eq_false_iff.mp hcancel)]
  · subst hlast
    rw [hgood, hentry, if_neg (Bool.eq_false_iff.mp hcancel),
      State.cleanPass_eq hdeferred { e with pending := [], phase := .pass none } rfl,
      State.addressOfIndex_congr (u := s.entryCounted e []) (s := s) rfl hspindle hstart]
    rfl

/-! ### R11, R142: format slots -/

/-- R11: the slot written whole, and every other slot as it stands. -/
theorem State.writeFormatSlot_media {s : State} {e : Engagement} {r : Request} (hr : s.request e.tag = some r) (k : Nat) :
    mediaRead (s.writeFormatSlot e).media k =
      if k = placeKey e.spindle e.target.cylinder e.surface e.index then
        ⟨true, some (formatHeader e.target), true, List.replicate 256 (r.fill.getD 0),
          some (checkWord (List.replicate 256 (r.fill.getD 0)) (headerWord0 e.target)), true⟩
      else mediaRead s.media k := by
  have hfill : s.engagedFill e = r.fill := by rw [State.engagedFill, hr, Option.bind_some]
  rw [State.writeFormatSlot, mediaRead_write, hfill, Engagement.place_eq]
  by_cases hk : placeKey e.spindle e.target.cylinder e.surface e.index = k
  · rw [if_pos hk, if_pos hk.symm]
    rfl
  · rw [if_neg hk, if_neg (Ne.symm hk)]

/-- R11, R142: what a format slot's end finds of the slot: written whole, at the mark if not before (assumption 39). -/
def State.slotWhole (s : State) (e : Engagement) : State := if e.phase = .formatWrite true then s.writeFormatSlot e else s

theorem State.slotWhole_eq (s : State) (e : Engagement) : s.slotWhole e = { s with media := (s.slotWhole e).media } := by
  unfold State.slotWhole
  split <;> rfl

section
variable {s : State} {e : Engagement} {r : Request} (hchan : s.chan = some e) (hr : s.request e.tag = some r)
include hchan

/-- R149: a stop request at a format slot's end. -/
theorem State.formatSlotEnd_stop (hstop : s.stopRequest = true) (isIndex : Bool) :
    s.formatSlotEnd isIndex = (s.slotWhole e).channelClosed e := by
  have hwhole : (s.slotWhole e).chan = some e := by rw [State.slotWhole_eq]; exact hchan
  rw [← State.closeChannel_eq hwhole]
  simp only [State.formatSlotEnd, hchan, hstop, if_true]
  rfl

include hr

/-- R142: the decisions at a format slot's end. -/
theorem State.formatSlotEnd_eq (hstop : s.stopRequest = false) (isIndex : Bool) {u : State}
    (hu : u = (s.slotWhole e).withSectorDone e.tag) :
    s.formatSlotEnd isIndex =
      if r.cancelPending then u.complete e.tag .cancelled none
      else if r.done + 1 = r.count then u.complete e.tag r.endOutcome none
      else if isIndex then u.complete e.tag .sectorNotFound none
      else { u with chan := some { e with
        index := e.index + 1, burst := e.burst + 1, phase := .formatWrite true, target := s.addressOfIndex r (e.index + 1) } } := by
  have hframe := s.slotWhole_eq e
  have hwholeRequest : (s.slotWhole e).request e.tag = some r := by rw [hframe]; exact hr
  have hrequest : u.request e.tag = _ := State.request_counted hwholeRequest (by rw [hu]; rfl)
  rw [State.sectorCounted_eq (State.request_tag hr)] at hrequest
  have huchan : u.chan = some e := by rw [hu, hframe]; exact hchan
  have huspindles : u.spindles = s.spindles := by rw [hu, hframe]; rfl
  have hcounted : (if e.phase = .formatWrite true then s.writeFormatSlot e else s).countSector e.tag = u := by
    rw [hu, State.countSector_eq, State.slotWhole]
  simp only [State.formatSlotEnd, hchan, hstop, Bool.false_eq_true, if_false, hcounted, hrequest,
    State.completeRun_eq hrequest, State.modChan_eq huchan, State.runAddress_eq]
  rw [State.addressOfIndex_congr (s := s) (r := r) huspindles (by rfl) (by rfl)]
  rfl

end

section
variable {s : State} {e : Engagement} {r : Request} (hchan : s.chan = some e) (hphase : e.phase = .formatWrite true)
include hchan hphase

/-- R142, R149: the trailing gap of the slot in work. -/
theorem State.formatSlotWritten_eq :
    s.formatSlotWritten =
      if s.stopRequest then (s.writeFormatSlot e).channelClosed e
      else if s.cancelling e.tag then ((s.writeFormatSlot e).withSectorDone e.tag).complete e.tag .cancelled none
      else { s.writeFormatSlot e with chan := some { e with phase := .formatWrite false } } := by
  have hwritten : (s.writeFormatSlot e).chan = some e := hchan
  simp only [State.formatSlotWritten, hchan, hphase, State.stopChannel, State.closeChannel_eq hwritten, State.countSector_eq,
    State.setPhase_eq hwritten]

end

theorem State.formatSlotWritten_closed {s : State} {e : Engagement} (hchan : s.chan = some e) (hphase : e.phase = .formatWrite false) :
    s.formatSlotWritten = s := by
  simp only [State.formatSlotWritten, hchan, hphase]

/-- Settles O49: the trailing gap by `State.formatSlotWritten_eq`, the mark by `State.formatSlotEnd_eq`. -/
theorem formatSlots : Obligations.FormatSlots := by
  unfold Obligations.FormatSlots
  intro s e r gateOpen hrun hchan hr _ hphase
  have taken {v : State} (hv : s.formatSlotWritten = v) : Taken .formatSlotWritten s v := by
    rw [Taken, exec_formatSlotWritten, event_running _ _ hrun, hv]
  have hmark (isIndex : Bool) : s.channelMark e.spindle isIndex = s.formatSlotEnd isIndex := by
    simp only [State.channelMark, hchan, hphase, if_true]
  refine ⟨s.slotWhole e, s.slotWhole_eq e, fun hclosed => ?_, fun hopen k => ?_, fun hopen => ?_, fun hclosed => ?_, fun isIndex =>
    ⟨fun hstop => ?_, fun hstop => ?_⟩⟩
  · subst hclosed
    simp [State.slotWhole, hphase]
  · subst hopen
    rw [State.slotWhole, if_pos hphase, State.writeFormatSlot_media hr]
  · subst hopen
    have hcancelling : s.cancelling e.tag = r.cancelPending := by rw [State.cancelling, hr, Option.any_some]
    have hwritten := State.formatSlotWritten_eq hchan hphase
    rw [hcancelling] at hwritten
    rw [State.slotWhole, if_pos hphase]
    refine ⟨fun hstop => taken ?_, fun hstop hcancel => taken ?_, fun hstop hcancel => taken ?_⟩
    · rw [hwritten, if_pos hstop]
    · rw [hwritten, if_neg (Bool.eq_false_iff.mp hstop), if_pos hcancel]
    · rw [hwritten, if_neg (Bool.eq_false_iff.mp hstop), if_neg (Bool.eq_false_iff.mp hcancel)]
  · subst hclosed
    rw [exec_formatSlotWritten, event_none _ _ (State.formatSlotWritten_closed hchan hphase)]
  · rw [hmark, State.formatSlotEnd_stop hchan hstop]
  · rw [hmark, State.formatSlotEnd_eq hchan hr hstop isIndex rfl]
    refine ⟨fun hcancel => ?_, fun hcancel hlast => ?_, fun hcancel hmore hindex => ?_, fun hcancel hmore hindex => ?_⟩
    · rw [if_pos hcancel]
    · rw [if_neg (Bool.eq_false_iff.mp hcancel), if_pos hlast]
    · rw [if_neg (Bool.eq_false_iff.mp hcancel), if_neg hmore, if_pos hindex]
    · rw [if_neg (Bool.eq_false_iff.mp hcancel), if_neg hmore, if_neg (Bool.eq_false_iff.mp hindex)]

end Sys2Proof.Machine
end

section
/-! What every event keeps, invariant by invariant (for O54, O56, O57 and O60): the records of one spindle before and after a change, and
the frames of the operations. -/

-- One declaration after another: elaborated in parallel, these files ask for more memory than a check has.
set_option Elab.async false

namespace Sys2Proof.Machine

/-! ### One spindle's records -/

/-- R28, R31, R33: a spindle's timers run in their states, the idle timer for an unpinned spindle. -/
def Spindle.TimersRun (r : Spindle) : Prop :=
  (r.spinUpTimer.isSome = true ↔ r.state = .spinningUp) ∧ (r.spinDownTimer.isSome = true ↔ r.state = .spinningDown) ∧
    (r.idleTimer.isSome = true → r.state = .ready ∧ r.pinned = false)

/-- R44, R51: what `State.TrackersSound` says of one spindle. -/
def Spindle.TrackerSound (limit : Nat) (r : Spindle) : Prop :=
  (r.state.spinning = false → r.tracker = .cleared) ∧ (r.tracker.tracked = false → r.tracker.sector = 0) ∧ r.tracker.errors ≤ limit

/-- R30, R31, R33, R39, R40: what `State.FlagsConsistent` says of one spindle. -/
def Spindle.Flagged (r : Spindle) : Prop :=
  r.FlagsMatchState ∧ (r.idleTimer.isSome = true → r.state = .ready ∧ r.pinned = false)

/-- R18, R40: what `State.PresenceExact` says of one spindle. -/
def Spindle.PresenceShown (r : Spindle) : Prop := r.configured = true → (r.state = .absent ↔ r.lines.pres = false)

/-- What a change of one spindle's records keeps in any state. -/
structure Spindle.Keeps (limit : Nat) (r u : Spindle) : Prop where
  arm : (r.arm = .unknown ↔ r.state ≠ .ready) → (u.arm = .unknown ↔ u.state ≠ .ready)
  timers : r.TimersRun → u.TimersRun
  tracker : r.TrackerSound limit → u.TrackerSound limit

/-- What a change of one spindle's records keeps with the wait list exact. -/
structure Spindle.Matches (r u : Spindle) : Prop where
  fields : r.FieldsMatchState → u.FieldsMatchState
  flags : r.Flagged → u.Flagged
  presence : r.PresenceShown → u.PresenceShown

/-! ### What every event keeps -/

/-- The tag and the spindle of every request, in the admission list's order. -/
def State.roll (s : State) : List (Tag × Port) := s.table.map fun r => (r.tag, r.spindle)

/-- No request joins the table, and a request that leaves it adds at most one DONE to the Stream. -/
structure Shrinks (s t : State) : Prop where
  roll : t.roll.Sublist s.roll
  dones : t.streamDones + t.table.length ≤ s.streamDones + s.table.length

/-- The invariants of the spindles' records, of the events and of the media, each kept by itself. -/
structure RecordsKept (s t : State) : Prop where
  budget : s.BudgetKept → t.BudgetKept
  waitList : s.WaitListExact → t.WaitListExact
  consistent : s.SpindlesConsistent → t.SpindlesConsistent
  flags : s.FlagsConsistent → t.FlagsConsistent
  presence : s.PresenceExact → t.PresenceExact
  arm : s.ArmExact → t.ArmExact
  timers : s.TimersSound → t.TimersSound
  trackers : s.TrackersSound → t.TrackersSound
  activity : s.ActivityOnce → t.ActivityOnce
  events : s.EventsSound → t.EventsSound
  media : s.MediaSound → t.MediaSound

/-- What every operation but an admission keeps. -/
structure Kept (s t : State) : Prop extends RecordsKept s t, Shrinks s t

theorem Shrinks.refl (s : State) : Shrinks s s := ⟨List.Sublist.refl _, Nat.le_refl _⟩

theorem Shrinks.trans {s t u : State} (h : Shrinks s t) (k : Shrinks t u) : Shrinks s u :=
  ⟨k.roll.trans h.roll, Nat.le_trans k.dones h.dones⟩

theorem RecordsKept.refl (s : State) : RecordsKept s s := ⟨id, id, id, id, id, id, id, id, id, id, id⟩

theorem RecordsKept.trans {s t u : State} (h : RecordsKept s t) (k : RecordsKept t u) : RecordsKept s u where
  budget := k.budget ∘ h.budget
  waitList := k.waitList ∘ h.waitList
  consistent := k.consistent ∘ h.consistent
  flags := k.flags ∘ h.flags
  presence := k.presence ∘ h.presence
  arm := k.arm ∘ h.arm
  timers := k.timers ∘ h.timers
  trackers := k.trackers ∘ h.trackers
  activity := k.activity ∘ h.activity
  events := k.events ∘ h.events
  media := k.media ∘ h.media

theorem Kept.refl (s : State) : Kept s s := ⟨RecordsKept.refl s, Shrinks.refl s⟩

theorem Kept.trans {s t u : State} (h : Kept s t) (k : Kept t u) : Kept s u :=
  ⟨h.toRecordsKept.trans k.toRecordsKept, h.toShrinks.trans k.toShrinks⟩

theorem Kept.foldl {α : Type} {f : State → α → State} (h : ∀ u x, Kept u (f u x)) (l : List α) (s : State) : Kept s (l.foldl f s) := by
  induction l generalizing s with
  | nil => rw [List.foldl_nil]; exact Kept.refl s
  | cons x l ih => rw [List.foldl_cons]; exact (h s x).trans (ih _)

theorem State.admissionList_eq (s : State) : s.admissionList = s.roll.map Prod.fst := by
  simp [State.admissionList, State.roll, Function.comp_def]

theorem State.requestCount_roll (s : State) (p : Port) : s.requestCount p = (s.roll.map Prod.snd).count p := by
  rw [State.requestCount_eq_count, State.roll, List.map_map]
  rfl

theorem State.length_roll (s : State) : s.roll.length = s.table.length := List.length_map _

theorem Shrinks.admissionList {s t : State} (h : Shrinks s t) : t.admissionList.Sublist s.admissionList := by
  rw [State.admissionList_eq, State.admissionList_eq]
  exact h.roll.map _

theorem Shrinks.tagsDistinct {s t : State} (h : Shrinks s t) (hd : s.TagsDistinct) : t.TagsDistinct := hd.sublist h.admissionList

theorem Shrinks.count_zero {s t : State} (h : Shrinks s t) {p : Port} (hzero : s.requestCount p = 0) : t.requestCount p = 0 := by
  rw [State.requestCount_roll] at hzero ⊢
  exact Nat.le_zero.mp (hzero ▸ (h.roll.map _).count_le p)

theorem State.roll_sublist_of_eq {s t : State} (h : t.roll = s.roll) : t.roll.Sublist s.roll := h ▸ List.Sublist.refl _

/-- A change of the requests that keeps their tags and their spindles. -/
theorem Shrinks.same {s t : State} (hroll : t.roll = s.roll) (hstream : t.stream = s.stream) : Shrinks s t where
  roll := State.roll_sublist_of_eq hroll
  dones := Nat.le_of_eq (by
    rw [State.streamDones, State.streamDones, hstream, ← State.length_roll, ← State.length_roll, hroll])

theorem State.roll_map {s t : State} {f : Request → Request} (h : t.table = s.table.map f)
    (hf : ∀ r, (f r).tag = r.tag ∧ (f r).spindle = r.spindle) : t.roll = s.roll := by
  simp [State.roll, h, Function.comp_def, hf]

theorem State.roll_congr {s t : State} (h : t.table = s.table) : t.roll = s.roll := by rw [State.roll, h, State.roll]

/-- A change that leaves the spindles and their lists alone. -/
theorem RecordsKept.still {s t : State} (hspindles : t.spindles = s.spindles) (hwait : t.waitList = s.waitList)
    (hactivity : s.activity.Nodup → t.activity.Nodup) (hparams : t.params = s.params) (hreset : t.inReset = s.inReset)
    (hcounts : ∀ p, (s.spindle p).state = .ready → (s.spindle p).idleTimer.isSome = true → s.requestCount p = 0 → t.requestCount p = 0)
    (hevents : s.EventsSound → t.EventsSound)
    (hmedia : s.MediaSound → t.MediaSound) : RecordsKept s t := by
  have hspindle := State.spindle_congr hspindles
  have hw : t.WaitListExact ↔ s.WaitListExact := by simp only [State.WaitListExact, hwait, hspindle]
  refine ⟨?_, hw.mpr, ?_, ?_, ?_, ?_, ?_, ?_, hactivity, hevents, hmedia⟩
  · simp [State.BudgetKept, State.spinningCount, State.risingCount, hspindle, hparams]
  · simp only [State.SpindlesConsistent, hw, hspindle, imp_self]
  · simp only [State.FlagsConsistent, hw, hspindle, imp_self]
  · simp only [State.PresenceExact, hw, hspindle, hreset, imp_self]
  · simp only [State.ArmExact, hspindle, imp_self]
  · intro h p
    obtain ⟨hup, hdown, hidle⟩ := h p
    rw [hspindle]
    refine ⟨hup, hdown, fun hsome => ?_⟩
    obtain ⟨hready, hpinned, hcount⟩ := hidle hsome
    exact ⟨hready, hpinned, hcounts p hready hsome hcount⟩
  · simp only [State.TrackersSound, hspindle, hparams, imp_self]

theorem Kept.still {s t : State} (hspindles : t.spindles = s.spindles) (hwait : t.waitList = s.waitList)
    (hactivity : s.activity.Nodup → t.activity.Nodup) (hparams : t.params = s.params) (hreset : t.inReset = s.inReset)
    (hshrinks : Shrinks s t) (hevents : s.EventsSound → t.EventsSound) (hmedia : s.MediaSound → t.MediaSound) : Kept s t :=
  ⟨.still hspindles hwait hactivity hparams hreset (fun _ _ _ => hshrinks.count_zero) hevents hmedia, hshrinks⟩

/-! ### Changes of one spindle -/

/-- A change of one spindle's records, with no effect on the others and none on the requests but to their hold reasons. -/
structure PortChange (s t : State) (p : Port) : Prop where
  others : ∀ q, q ≠ p → t.spindle q = s.spindle q
  params : t.params = s.params
  inReset : t.inReset = s.inReset
  media : t.media = s.media
  shrinks : Shrinks s t
  events : s.EventsSound → t.EventsSound

theorem State.WaitListExact.update {s t : State} {p : Port} (h : s.WaitListExact) (hothers : ∀ q, q ≠ p → t.spindle q = s.spindle q)
    (hnodup : t.waitList.Nodup) (hlist : ∀ q, q ≠ p → (q ∈ t.waitList ↔ q ∈ s.waitList))
    (hp : p ∈ t.waitList ↔ (t.spindle p).state = .spinWait) : t.WaitListExact := by
  refine ⟨hnodup, fun q => ?_⟩
  by_cases hq : q = p
  · exact hq ▸ hp
  · rw [hlist q hq, hothers q hq]
    exact h.2 q

/-- R25: a spindle that changes its state to another than SPIN_WAIT has left the wait list. -/
theorem State.WaitListExact.leave {s t : State} {p : Port} (h : s.WaitListExact) (hothers : ∀ q, q ≠ p → t.spindle q = s.spindle q)
    (hlist : t.waitList = if (s.spindle p).state = .spinWait then s.waitList.filter (· != p) else s.waitList)
    (hstate : (t.spindle p).state ≠ .spinWait) : t.WaitListExact := by
  by_cases hwait : (s.spindle p).state = .spinWait
  · rw [if_pos hwait] at hlist
    refine h.update hothers (hlist ▸ h.1.filter _) (fun q hq => by simp [hlist, hq]) ?_
    simp [hlist, hstate]
  · rw [if_neg hwait] at hlist
    refine h.update hothers (hlist ▸ h.1) (fun q _ => by rw [hlist]) ?_
    rw [hlist, h.2 p]
    simp [hwait, hstate]

/-- R25: a spindle whose state stands keeps its place. -/
theorem State.WaitListExact.stay {s t : State} {p : Port} (h : s.WaitListExact) (hothers : ∀ q, q ≠ p → t.spindle q = s.spindle q)
    (hlist : t.waitList = s.waitList) (hstate : (t.spindle p).state = (s.spindle p).state) : t.WaitListExact :=
  h.update hothers (hlist ▸ h.1) (fun q _ => by rw [hlist]) (by rw [hlist, h.2 p, hstate])

/-- R25: a spindle joins the tail of the wait list. -/
theorem State.WaitListExact.join {s t : State} {p : Port} (h : s.WaitListExact) (hothers : ∀ q, q ≠ p → t.spindle q = s.spindle q)
    (hlist : t.waitList = s.waitList ++ [p]) (hout : (s.spindle p).state ≠ .spinWait) (hstate : (t.spindle p).state = .spinWait) :
    t.WaitListExact := by
  have hnew : p ∉ s.waitList := fun hp => hout ((h.2 p).mp hp)
  refine h.update hothers ?_ (fun q hq => by simp [hlist, hq]) (by simp [hlist, hstate])
  rw [hlist]
  exact List.nodup_append.mpr ⟨h.1, by simp, by simpa using fun a ha (heq : a = p) => hnew (heq ▸ ha)⟩

section
variable {s t : State} {p : Port}

/-- The counts of R24 do not rise with a spindle that enters neither the spinning states nor SPINNING_UP. -/
theorem State.BudgetKept.update (h : s.BudgetKept) (hothers : ∀ q, q ≠ p → t.spindle q = s.spindle q) (hparams : t.params = s.params)
    (hspinning : (t.spindle p).state.spinning = true → (s.spindle p).state.spinning = true)
    (hrising : (t.spindle p).state = .spinningUp → (s.spindle p).state = .spinningUp) : t.BudgetKept := by
  have count (c : SpindleState → Bool) (hc : c (t.spindle p).state = true → c (s.spindle p).state = true) :
    t.countIn c ≤ s.countIn c := by
    have hupdate := State.countIn_update (s := s) (t := t) (p := p) (fun q hq => by rw [hothers q hq]) c
    have hle : (c (t.spindle p).state).toNat ≤ (c (s.spindle p).state).toNat := by
      cases ht : c (t.spindle p).state
      · exact Nat.zero_le _
      · exact Nat.le_of_eq (congrArg Bool.toNat (hc ht).symm)
    omega
  unfold State.BudgetKept at h ⊢
  rw [State.spinningCount_eq, State.risingCount_eq] at h ⊢
  rw [hparams]
  exact ⟨Nat.le_trans (count _ hspinning) h.1, Nat.le_trans (count (· == .spinningUp) (by simpa using hrising)) h.2⟩

/-- One spindle's change keeps every invariant that its own records keep. -/
theorem Kept.onPort (h : PortChange s t p) (hkeeps : (s.spindle p).Keeps s.params.trackFaultLimit (t.spindle p))
    (hidle : (t.spindle p).idleTimer.isSome = true → (s.spindle p).idleTimer.isSome = true ∨ t.requestCount p = 0)
    (hmatches : s.WaitListExact → (s.spindle p).Matches (t.spindle p)) (hbudget : s.BudgetKept → t.BudgetKept)
    (hwait : s.WaitListExact → t.WaitListExact) (hactivity : s.activity.Nodup → t.activity.Nodup) : Kept s t := by
  obtain ⟨hothers, hparams, hreset, hmedia, hshrinks, hevents⟩ := h
  have each {P Q : Spindle → Prop} (hP : ∀ q, P (s.spindle q)) (hpq : ∀ r, P r → Q r) (hp : P (s.spindle p) → Q (t.spindle p)) :
      ∀ q, Q (t.spindle q) := by
    intro q
    by_cases hq : q = p
    · exact hq ▸ hp (hP p)
    · exact hothers q hq ▸ hpq _ (hP q)
  refine ⟨⟨hbudget, hwait, fun hs => ⟨hwait hs.1, ?_⟩, fun hs => ⟨hwait hs.1, ?_⟩, fun hs => ⟨hwait hs.1, fun hrun => ?_⟩, fun hs => ?_,
    fun hs => ?_, fun hs => ?_, hactivity, hevents, fun hs => ?_⟩, hshrinks⟩
  · exact each hs.2 (fun _ => id) (hmatches hs.1).fields
  · exact each (P := Spindle.Flagged) hs.2 (fun _ => id) (hmatches hs.1).flags
  · exact each (P := Spindle.PresenceShown) (hs.2 (hreset ▸ hrun)) (fun _ => id) (hmatches hs.1).presence
  · exact each (P := fun r => r.arm = .unknown ↔ r.state ≠ .ready) hs (fun _ => id) hkeeps.arm
  · have hrun := each (P := Spindle.TimersRun) (fun q => ⟨(hs q).1, (hs q).2.1, fun hi => ⟨((hs q).2.2 hi).1, ((hs q).2.2 hi).2.1⟩⟩)
      (fun _ => id) hkeeps.timers
    intro q
    obtain ⟨hup, hdown, hran⟩ := hrun q
    refine ⟨hup, hdown, fun hi => ⟨(hran hi).1, (hran hi).2, ?_⟩⟩
    by_cases hq : q = p
    · subst hq
      rcases hidle hi with hi | hzero
      · exact hshrinks.count_zero ((hs q).2.2 hi).2.2
      · exact hzero
    · rw [hothers q hq] at hi
      exact hshrinks.count_zero ((hs q).2.2 hi).2.2
  · have htracker := each (P := Spindle.TrackerSound s.params.trackFaultLimit) hs (fun _ => id) hkeeps.tracker
    rw [← hparams] at htracker
    exact htracker
  · rw [State.MediaSound, hmedia]
    exact hs

end

/-! ### Events posted -/

/-- R188: the record of the spindle stands in the place of the one there was. -/
theorem mem_postInto {p : Port} {kind : EventSet} {now : SpindleState} {cause : Option Cause} {events : List EventRecord}
    {q : EventRecord} (h : q ∈ postInto p kind now cause events) : q ∈ events ∨ q.spindle = p := by
  induction events with
  | nil => exact .inr (by rw [List.mem_singleton.mp h])
  | cons r rest ih =>
    unfold postInto at h
    split at h
    · rcases List.mem_cons.mp h with rfl | h
      · exact .inr rfl
      · exact .inl (List.mem_cons_of_mem _ h)
    · rcases List.mem_cons.mp h with rfl | h
      · exact .inl List.mem_cons_self
      · exact (ih h).imp (List.mem_cons_of_mem _) id

theorem State.EventsSound.posted {s t : State} (h : s.EventsSound) {p : Port} {kind : EventSet} {now : SpindleState}
    {cause : Option Cause} (hevents : t.events = postInto p kind now cause s.events) (hcause : cause.isSome = true → now = .faulted) :
    t.EventsSound := by
  unfold State.EventsSound at h ⊢
  rw [hevents]
  clear hevents
  generalize s.events = events at h
  induction events with
  | nil => simpa [postInto] using hcause
  | cons r rest ih =>
    obtain ⟨hnodup, hrecords⟩ := h
    rw [List.map_cons, List.nodup_cons] at hnodup
    obtain ⟨hfresh, hrest⟩ := hnodup
    obtain ⟨ihnodup, ihrecords⟩ := ih ⟨hrest, fun q hq => hrecords q (List.mem_cons_of_mem _ hq)⟩
    unfold postInto
    split
    · next hp =>
      refine ⟨?_, List.forall_mem_cons.mpr ⟨⟨?_, Nat.min_le_left _ _, hcause⟩, fun q hq => hrecords q (List.mem_cons_of_mem _ hq)⟩⟩
      · rw [List.map_cons, List.nodup_cons]
        exact ⟨hp ▸ hfresh, hrest⟩
      · exact Nat.le_min.mpr ⟨by decide, Nat.le_add_left ..⟩
    · next hp =>
      refine ⟨?_, List.forall_mem_cons.mpr ⟨hrecords r List.mem_cons_self, ihrecords⟩⟩
      rw [List.map_cons, List.nodup_cons]
      refine ⟨fun hmem => ?_, ihnodup⟩
      obtain ⟨q, hq, hspindle⟩ := List.mem_map.mp hmem
      rcases mem_postInto hq with hold | hnew
      · exact hfresh (List.mem_map.mpr ⟨q, hold, hspindle⟩)
      · exact hp (hspindle ▸ hnew)

end Sys2Proof.Machine
end

section
/-! The changes of spindles' states keep every invariant (R18 to R31, R39, R40, R43): each as one change of one spindle's records. -/

-- One declaration after another: elaborated in parallel, these files ask for more memory than a check has.
set_option Elab.async false

namespace Sys2Proof.Machine

/-! ### Records in a new state -/

/-- R29, R33: an idle timer stops where READY is left, and runs nowhere else. -/
theorem Spindle.TimersRun.enter_idle {r v : Spindle} (h : r.TimersRun) (hstate : v.state = r.state)
    (hidle : v.idleTimer = r.idleTimer ∨ v.idleTimer = none) {st : SpindleState} (hst : st ≠ .ready) :
    (v.enter st).idleTimer = none := by
  obtain ⟨-, -, hran⟩ := h
  by_cases hready : r.state = .ready
  · simp [Spindle.enter, hstate, hready, hst]
  · have hnone : r.idleTimer = none := by
      cases hi : r.idleTimer
      · rfl
      · exact absurd (hran (by simp [hi])).1 hready
    rcases hidle with hi | hi <;> simp [Spindle.enter, hstate, hready, hi, hnone]

theorem Spindle.enter_idle_isSome {r : Spindle} {st : SpindleState} (h : (r.enter st).idleTimer.isSome = true) :
    r.idleTimer.isSome = true := by
  simp only [Spindle.enter] at h
  split at h
  · cases h
  · exact h

section
variable {limit : Nat} {r v : Spindle} (hstate : v.state = r.state) (harm : v.arm = r.arm) (htracker : v.tracker = r.tracker)
  (hidle : v.idleTimer = r.idleTimer ∨ v.idleTimer = none)
include hstate harm htracker hidle

/-- R28, R29, R31, R53, R69: a state entered that is not a spinning state. -/
theorem Spindle.Keeps.enter_resting {st : SpindleState} (hst : st.spinning = false) : r.Keeps limit (v.enter st) := by
  have hne : st ≠ .ready ∧ st ≠ .spinningUp ∧ st ≠ .spinningDown := by cases st <;> simp [SpindleState.spinning] at hst ⊢
  obtain ⟨hready, hup, hdown⟩ := hne
  refine ⟨fun h => ?_, fun h => ?_, fun h => ?_⟩
  · by_cases hr : r.state = .ready <;> simp [Spindle.enter, hstate, harm, hready, hr, h]
  · refine ⟨by simp [Spindle.enter, hup], by simp [Spindle.enter, hdown], fun hsome => ?_⟩
    rw [h.enter_idle hstate hidle hready] at hsome
    cases hsome
  · obtain ⟨hcleared, hsector, herrors⟩ := h
    have hu : (v.enter st).tracker = .cleared := by
      rw [Spindle.enter_tracker, hstate, htracker]
      cases hs : r.state.spinning
      · simpa using hcleared hs
      · simp [hst, Tracker.cleared]
    exact ⟨fun _ => hu, fun _ => by simp [hu, Tracker.cleared], by simp [hu, Tracker.cleared]⟩

/-- R26, R28: SPINNING_UP entered, the spin-up timer started. -/
theorem Spindle.Keeps.enter_spinningUp (deadline : Nat) :
    r.Keeps limit { v.enter .spinningUp with spinUpTimer := some deadline } := by
  refine ⟨fun h => ?_, fun h => ⟨by simp [Spindle.enter], by simp [Spindle.enter], fun hsome => ?_⟩, fun h => ?_⟩
  · by_cases hr : r.state = .ready <;> simp [Spindle.enter, hstate, harm, hr, h]
  · rw [h.enter_idle hstate hidle (by decide)] at hsome
    cases hsome
  · simpa [Spindle.TrackerSound, Spindle.enter, SpindleState.spinning, htracker] using h.2

/-- R30, R31: SPINNING_DOWN entered, the spin-down timer started. -/
theorem Spindle.Keeps.enter_spinningDown (deadline : Nat) :
    r.Keeps limit { v.enter .spinningDown with spinDownTimer := some deadline } := by
  refine ⟨fun h => ?_, fun h => ⟨by simp [Spindle.enter], by simp [Spindle.enter], fun hsome => ?_⟩, fun h => ?_⟩
  · by_cases hr : r.state = .ready <;> simp [Spindle.enter, hstate, harm, hr, h]
  · rw [h.enter_idle hstate hidle (by decide)] at hsome
    cases hsome
  · simpa [Spindle.TrackerSound, Spindle.enter, SpindleState.spinning, htracker] using h.2

end

theorem Spindle.Keeps.trans {limit : Nat} {r u v : Spindle} (h : r.Keeps limit u) (k : u.Keeps limit v) : r.Keeps limit v :=
  ⟨k.arm ∘ h.arm, k.timers ∘ h.timers, k.tracker ∘ h.tracker⟩

/-- The timers and the tracker of a record stand, and its arm stays UNKNOWN or known. -/
theorem Spindle.Keeps.moved_arm {limit : Nat} {r : Spindle} {a : Arm} (o : Orders)
    (h : (a = .unknown ↔ r.arm = .unknown) ∨ (a = .unknown ↔ r.state ≠ .ready)) : r.Keeps limit { r with arm := a, orders := o } :=
  ⟨fun hr => h.elim (fun ha => ha.trans hr) id, id, id⟩

/-! ### Changes of state -/

/-- A spindle's records changed, the wait list, and the state entered, and the records changed again. -/
def State.moved (s : State) (p : Port) (f : Spindle → Spindle) (waitList : List Port) (st : SpindleState) (g : Spindle → Spindle) :
    State :=
  (((s.modSpindle p f).setWaitList waitList).enterState p st).modSpindle p g

theorem State.modSpindle_id (s : State) (p : Port) : s.modSpindle p id = s := by
  obtain ⟨hframe, hsame, hother⟩ := s.modSpindle_changes p id
  rw [hframe, State.spindles_ext (s := s) fun q => ?_]
  by_cases hq : q = p
  · rw [hq, hsame, id_eq]
  · exact hother q hq

section
variable {s : State} {p : Port} {f g : Spindle → Spindle} {w : List Port} {st : SpindleState}

theorem State.moved_same : (s.moved p f w st g).spindle p = g ((f (s.spindle p)).enter st) := by
  rw [State.moved, State.spindle_modSpindle_same, State.enterState_spindle_same, State.setWaitList_spindle,
    State.spindle_modSpindle_same]

theorem State.moved_of_ne {q : Port} (h : q ≠ p) : (s.moved p f w st g).spindle q = s.spindle q := by
  rw [State.moved, State.spindle_modSpindle, if_neg (Ne.symm h), State.enterState_spindle_of_ne _ _ h, State.setWaitList_spindle,
    State.spindle_modSpindle, if_neg (Ne.symm h)]

theorem State.moved_waitList (hf : (f (s.spindle p)).state = (s.spindle p).state) :
    (s.moved p f w st g).waitList = if (s.spindle p).state = .spinWait ∧ st ≠ .spinWait then w.filter (· != p) else w := by
  have heq := congrArg State.waitList (((s.modSpindle p f).setWaitList w).enterState_eq p st)
  simp only [State.setWaitList_spindle, State.spindle_modSpindle_same, hf, State.setWaitList_waitList] at heq
  exact heq

theorem State.moved_change : PortChange s (s.moved p f w st g) p := by
  obtain ⟨u, hu⟩ : ∃ u, u = (s.modSpindle p f).setWaitList w := ⟨_, rfl⟩
  have htable : u.table = s.table ∧ u.stream = s.stream ∧ u.events = s.events ∧ u.params = s.params ∧ u.inReset = s.inReset ∧
      u.media = s.media := by
    rw [hu]
    simp
  obtain ⟨htable, hstream, hevents, hparams, hreset, hmedia⟩ := htable
  have heq := u.enterState_eq p st
  refine ⟨fun q hq => State.moved_of_ne hq, ?_, ?_, ?_, .same ?_ ?_, fun hs => ?_⟩
  all_goals rw [State.moved, ← hu]
  · simp [hparams]
  · simp [hreset]
  · simp [hmedia]
  · refine State.roll_map (f := Request.spindleEvaluated p (!(st == .ready && ((u.spindle p).enter st).tracker.tracked))) ?_ fun r => ?_
    · rw [← htable]
      exact congrArg State.table heq
    · unfold Request.spindleEvaluated
      split <;> simp
  · simp [hstream]
  · refine hs.posted (p := p) (kind := ⟨true, false, false, false, false⟩) (now := st)
      (cause := if st = .faulted then (u.spindle p).cause else none) ?_ ?_
    · rw [← hevents]
      exact congrArg State.events heq
    · split <;> simp_all

/-- R41: a change of state keeps what its records keep. -/
theorem State.moved_kept (hkeeps : (s.spindle p).Keeps s.params.trackFaultLimit (g ((f (s.spindle p)).enter st)))
    (hidle : (g ((f (s.spindle p)).enter st)).idleTimer.isSome = true → (s.spindle p).idleTimer.isSome = true)
    (hmatches : s.WaitListExact → (s.spindle p).Matches (g ((f (s.spindle p)).enter st)))
    (hbudget : s.BudgetKept → (s.moved p f w st g).BudgetKept) (hwait : s.WaitListExact → (s.moved p f w st g).WaitListExact) :
    Kept s (s.moved p f w st g) := by
  have hactivity : (s.moved p f w st g).activity = s.activity := by simp [State.moved]
  refine Kept.onPort State.moved_change ?_ ?_ ?_ hbudget hwait fun h => by rw [hactivity]; exact h
  all_goals rw [State.moved_same]
  · exact hkeeps
  · exact fun h => .inl (hidle h)
  · exact hmatches

/-- R25, R41: a change of state other than a start or a join of the wait list. -/
theorem State.moved_out_kept (hst : st ≠ .spinWait) (hf : (f (s.spindle p)).state = (s.spindle p).state) (hg : ∀ r, (g r).state = r.state)
    (hspinning : st.spinning = true → (s.spindle p).state.spinning = true) (hrising : st ≠ .spinningUp)
    (hkeeps : (s.spindle p).Keeps s.params.trackFaultLimit (g ((f (s.spindle p)).enter st)))
    (hidle : (g ((f (s.spindle p)).enter st)).idleTimer.isSome = true → (s.spindle p).idleTimer.isSome = true)
    (hmatches : s.WaitListExact → (s.spindle p).Matches (g ((f (s.spindle p)).enter st))) :
    Kept s (((s.modSpindle p f).enterState p st).modSpindle p g) := by
  have hmoved : ((s.modSpindle p f).enterState p st).modSpindle p g = s.moved p f s.waitList st g := by
    rw [State.moved]
    congr 2
  have hstate : ((s.moved p f s.waitList st g).spindle p).state = st := by
    rw [State.moved_same, hg]
    rfl
  rw [hmoved]
  refine State.moved_kept hkeeps hidle hmatches (fun h => h.update (fun q hq => State.moved_of_ne hq) ?_ ?_ ?_) fun h => ?_
  · exact State.moved_change.params
  · rwa [hstate]
  · exact fun h => absurd (hstate.symm.trans h) hrising
  · refine h.leave (fun q hq => State.moved_of_ne hq) ?_ (by rwa [hstate])
    rw [State.moved_waitList hf]
    simp [hst]

theorem State.entered_kept (hst : st ≠ .spinWait) (hf : (f (s.spindle p)).state = (s.spindle p).state)
    (hspinning : st.spinning = true → (s.spindle p).state.spinning = true) (hrising : st ≠ .spinningUp)
    (hkeeps : (s.spindle p).Keeps s.params.trackFaultLimit ((f (s.spindle p)).enter st))
    (hidle : ((f (s.spindle p)).enter st).idleTimer.isSome = true → (s.spindle p).idleTimer.isSome = true)
    (hmatches : s.WaitListExact → (s.spindle p).Matches ((f (s.spindle p)).enter st)) : Kept s ((s.modSpindle p f).enterState p st) := by
  rw [← State.modSpindle_id ((s.modSpindle p f).enterState p st) p]
  exact State.moved_out_kept hst hf (fun _ => rfl) hspinning hrising hkeeps hidle hmatches

end

end Sys2Proof.Machine
end

section
/-! The operations of the Spindle Manager, of completion and of the Scheduler keep every invariant. -/

-- One declaration after another: elaborated in parallel, these files ask for more memory than a check has.
set_option Elab.async false

namespace Sys2Proof.Machine

/-! ### Operations that leave the spindles alone -/

section
variable (s : State)

/-- An operation that leaves the spindles, their lists, the events and the media alone. -/
theorem Kept.quiet {s t : State} (hshrinks : Shrinks s t) (hspindles : t.spindles = s.spindles := by simp)
    (hwait : t.waitList = s.waitList := by simp) (hactivity : t.activity = s.activity := by simp)
    (hparams : t.params = s.params := by simp) (hreset : t.inReset = s.inReset := by simp)
    (hevents : t.events = s.events := by simp) (hmedia : t.media = s.media := by simp) : Kept s t :=
  .still hspindles hwait (by rw [hactivity]; exact id) hparams hreset hshrinks (by simp [State.EventsSound, hevents])
    (by simp [State.MediaSound, hmedia])

theorem Request.afterReturn_same (n : Nat) (r : Request) : (r.afterReturn n).tag = r.tag ∧ (r.afterReturn n).spindle = r.spindle :=
  ⟨Request.afterReturn_tag n r, Request.afterReturn_spindle n r⟩

theorem State.returnBuffers_kept (n : Nat) : Kept s (s.returnBuffers n) :=
  .quiet (.same (State.roll_map (by rw [State.returnBuffers_eq]) (Request.afterReturn_same n)) (by simp))

theorem State.closeChannel_kept : Kept s s.closeChannel := by
  cases h : s.chan with
  | none => rw [State.closeChannel_idle h]; exact Kept.refl s
  | some e =>
    rw [State.closeChannel_eq h]
    exact .quiet (.same (State.roll_map rfl (Request.afterReturn_same _)) rfl) rfl rfl rfl rfl rfl rfl rfl

theorem State.modRequest_kept (t : Tag) {f : Request → Request} (hf : ∀ r, (f r).tag = r.tag ∧ (f r).spindle = r.spindle) :
    Kept s (s.modRequest t f) := by
  refine .quiet (.same (State.roll_map rfl fun r => ?_) rfl)
  split
  · exact hf r
  · exact ⟨rfl, rfl⟩

theorem State.modChan_kept (f : Engagement → Engagement) : Kept s (s.modChan f) := .quiet (.same (State.roll_congr (by simp)) (by simp))

theorem State.clockTo_kept (t : Nat) : Kept s (s.clockTo t) := .quiet (.same (State.roll_congr (by simp)) (by simp))

theorem State.countSector_kept (t : Tag) : Kept s (s.countSector t) := s.modRequest_kept t fun _ => ⟨rfl, rfl⟩

theorem State.evalSpindleHold_kept (p : Port) : Kept s (s.evalSpindleHold p) := by
  refine .quiet (.same (State.roll_map (by rw [State.evalSpindleHold_eq]) fun r => ?_) (by simp))
  unfold Request.spindleEvaluated
  split <;> simp

/-- R10 to R13: a slot written, whole or cut short. -/
theorem Kept.written {s t : State} {k : Nat} {v : Slot} {n : Nat}
    (h : t = { s with media := mediaWrite s.media k v, freeUses := n }) : Kept s t := by
  subst h
  exact .still rfl rfl id rfl rfl (.same rfl rfl) id (mediaWf_write _ _ _)

theorem State.tearSector_kept : Kept s s.tearSector := by
  unfold State.tearSector
  split
  · exact Kept.refl s
  · split
    · exact .written rfl
    · exact .written rfl
    · exact Kept.refl s

theorem State.countWholeSlot_kept : Kept s s.countWholeSlot := by
  unfold State.countWholeSlot
  split
  · exact Kept.refl s
  · split
    · split
      · exact s.countSector_kept _
      · exact Kept.refl s
    · exact Kept.refl s

theorem State.abortChannel_kept (p : Port) : Kept s (s.abortChannel p) := by
  unfold State.abortChannel
  split
  · exact Kept.refl s
  · split
    · exact (s.tearSector_kept.trans (State.countWholeSlot_kept _)).trans (State.closeChannel_kept _)
    · exact Kept.refl s

theorem State.post_kept (p : Port) (kind : EventSet) : Kept s (s.post p kind) := by
  refine .still (by simp) (by simp) (by simp) (by simp) (by simp) (.same (State.roll_congr (by simp)) (by simp)) (fun h => ?_)
    (by simp [State.MediaSound])
  refine h.posted (State.post_events s p kind) fun hcause => ?_
  exact Classical.byContradiction fun hstate => by simp [hstate] at hcause

theorem toTail_nodup {p : Port} {l : List Port} (h : l.Nodup) : (toTail p l).Nodup := by
  refine List.nodup_append.mpr ⟨h.filter _, by simp, fun a ha b hb heq => ?_⟩
  rw [List.mem_singleton.mp hb] at heq
  simp [heq] at ha

/-- R32: the activity order keeps each spindle once. -/
theorem State.touchActivity_kept (p : Port) : Kept s (s.touchActivity p) :=
  .still (by simp) (by simp) toTail_nodup (by simp) (by simp) (.same (State.roll_congr (by simp)) (by simp))
    (by simp [State.EventsSound]) (by simp [State.MediaSound])

end

/-! ### Flags, arms and trackers of one spindle -/

section
variable {s : State} {p : Port} {f : Spindle → Spindle}

theorem State.modSpindle_change : PortChange s (s.modSpindle p f) p where
  others := (s.modSpindle_changes p f).2.2
  params := by simp
  inReset := by simp
  media := by simp
  shrinks := .same (State.roll_congr (by simp)) (by simp)
  events h := by simpa [State.EventsSound] using h

/-- A change of one spindle's records that leaves its state. -/
theorem State.modSpindle_kept (hstate : (f (s.spindle p)).state = (s.spindle p).state)
    (hkeeps : (s.spindle p).Keeps s.params.trackFaultLimit (f (s.spindle p)))
    (hidle : (f (s.spindle p)).idleTimer.isSome = true → (s.spindle p).idleTimer.isSome = true ∨ s.requestCount p = 0)
    (hmatches : (s.spindle p).Matches (f (s.spindle p))) : Kept s (s.modSpindle p f) := by
  obtain ⟨-, hsame, hother⟩ := s.modSpindle_changes p f
  refine Kept.onPort State.modSpindle_change ?_ ?_ ?_ ?_ ?_ ?_
  · rw [hsame]; exact hkeeps
  · rw [hsame, State.requestCount_congr (s := s) (by simp)]; exact hidle
  · intro _; rw [hsame]; exact hmatches
  · exact fun h => h.update hother (by simp) (by rw [hsame, hstate]; exact id) (by rw [hsame, hstate]; exact id)
  · exact fun h => h.stay hother (by simp) (by rw [hsame, hstate])
  · simp

/-- R57: an arm that stays UNKNOWN or known, or is so exactly out of READY. -/
theorem State.modArm_kept {a : Spindle → Arm} {o : Spindle → Orders}
    (h : (a (s.spindle p) = .unknown ↔ (s.spindle p).arm = .unknown) ∨ (a (s.spindle p) = .unknown ↔ (s.spindle p).state ≠ .ready)) :
    Kept s (s.modSpindle p fun r => { r with arm := a r, orders := o r }) :=
  State.modSpindle_kept rfl (.moved_arm _ h) .inl ⟨id, id, id⟩

end

section
variable (s : State) (p : Port)

theorem Arm.withoutOwner_eq_unknown (t : Tag) (a : Arm) : a.withoutOwner t = .unknown ↔ a = .unknown := by
  cases a <;> simp [Arm.withoutOwner]

theorem Arm.orphan_eq_unknown (a : Arm) : a.orphan = .unknown ↔ a = .unknown := by
  cases a <;> simp [Arm.orphan]

theorem State.clearOwner_kept (t : Tag) : Kept s (s.clearOwner p t) :=
  State.modArm_kept (a := fun r => r.arm.withoutOwner t) (o := Spindle.orders) (.inl (Arm.withoutOwner_eq_unknown t _))

theorem State.orphanSeek_kept : Kept s (s.orphanSeek p) :=
  State.modArm_kept (a := fun r => r.arm.orphan) (o := Spindle.orders) (.inl (Arm.orphan_eq_unknown _))

theorem State.startIdle_kept : Kept s (s.startIdle p) := by
  unfold State.startIdle
  split
  · next h =>
    obtain ⟨hready, hpinned, hcount, -⟩ := h
    refine State.modSpindle_kept rfl ⟨id, fun ht => ⟨ht.1, ht.2.1, fun _ => ⟨hready, hpinned⟩⟩, id⟩ (fun _ => .inr hcount)
      ⟨id, fun hf => ⟨hf.1, fun _ => ⟨hready, hpinned⟩⟩, id⟩
  · exact Kept.refl s

end

/-! ### Completion -/

section
variable (s : State)

theorem Request.withHolds_same (h : Holds) (r : Request) : ((r.withHolds h).tag, (r.withHolds h).spindle) = (r.tag, r.spindle) := by simp

theorem State.evalBarriers_kept (p : Port) : Kept s (s.evalBarriers p) := by
  refine .quiet (.same ?_ (by simp))
  rw [State.evalBarriers_eq]
  exact map_barriersEvaluated (fun r h => r.withHolds_same h) p s.table

theorem List.length_filter_lt_of_find? {α : Type} {c : α → Bool} {l : List α} {x : α} (h : l.find? c = some x) :
    (l.filter fun y => !c y).length + 1 ≤ l.length := by
  have hlt : (l.filter fun y => !c y).length < l.length := by
    refine List.length_filter_lt_length_iff_exists.mpr ⟨x, List.mem_of_find?_eq_some h, ?_⟩
    simp [List.find?_some h]
  exact hlt

/-- R96: a request leaves the table, and its DONE joins the Stream. -/
theorem State.drop_kept {s t : State} {g : Tag} {r : Request} {d : DoneRecord} (hr : s.request g = some r)
    (ht : t = { s with stream := s.stream ++ [.done d], table := s.table.filter fun q => q.tag != g }) : Kept s t := by
  subst ht
  refine .quiet ⟨List.filter_sublist.map _, ?_⟩ rfl rfl rfl rfl rfl rfl rfl
  have hlength := List.length_filter_lt_of_find? hr
  simp only [State.streamDones, List.filter_append, List.length_append]
  simp only [bne, StreamEntry.holdsBuffer, List.filter_cons, List.filter_nil, Bool.not_false, if_true, List.length_singleton]
  omega

theorem State.complete_kept (t : Tag) (o : Outcome) (cause : Option Cause) : Kept s (s.complete t o cause) := by
  cases hr : s.request t with
  | none => rw [State.complete_free hr]; exact Kept.refl s
  | some r =>
    rw [State.complete_eq hr]
    refine Kept.trans ?_ (State.startIdle_kept _ _)
    have htag := State.request_tag hr
    subst htag
    obtain ⟨u, hu⟩ : ∃ u : State, u = { s with
      stream := s.stream ++ [.done (doneRecord r o cause)], table := s.table.filter fun q => q.tag != r.tag } := ⟨_, rfl⟩
    obtain ⟨v, hv⟩ : ∃ v : State, v = { u with
      chan := if s.chan.any (fun e => e.tag == r.tag) then none else s.chan
      free := s.free + s.completionBuffers r
      table := u.table.map (Request.afterReturn (s.completionBuffers r)) } := ⟨_, rfl⟩
    have hcompleted : s.completed r o cause = ((v.clearOwner r.spindle r.tag).evalBarriers r.spindle).touchActivity r.spindle := by
      rw [State.evalBarriers_eq, hv, hu]
      rfl
    have huv : Kept u v := by
      rw [hv]
      exact .quiet (.same (State.roll_map rfl (Request.afterReturn_same _)) rfl) rfl rfl rfl rfl rfl rfl rfl
    rw [hcompleted]
    exact ((((State.drop_kept hr hu).trans huv).trans (v.clearOwner_kept _ _)).trans (State.evalBarriers_kept _ _)).trans
      (State.touchActivity_kept _ _)

theorem State.completeAll_kept (p : Port) (o : Outcome) (cause : Option Cause) : Kept s (s.completeAll p o cause) :=
  Kept.foldl (fun u t => u.complete_kept t o cause) _ s

end

end Sys2Proof.Machine
end

section
/-! The Spindle Manager's transitions keep every invariant (R18 to R43), each with what the rule asks of the spindle it takes. -/

-- One declaration after another: elaborated in parallel, these files ask for more memory than a check has.
set_option Elab.async false

namespace Sys2Proof.Machine

section
variable {s : State} {p : Port}

/-! ### Matches: what the records of a spindle keep with their state -/

/-- R39, R40: out of service, with the cause of FAULTED, and ABSENT exactly without PRES. -/
theorem Spindle.Matches.out_of_service {r : Spindle} {st : SpindleState} {o : Outcome} {cause : Option Cause}
    (h : OutOfService st o cause) (hconfigured : r.state ≠ .unconfigured) (l : Lines)
    (hpresence : r.PresenceShown → (st = .absent ↔ l.pres = false)) :
    r.Matches (Spindle.enter { r with lines := l, cause := cause, pinned := false, respin := false, idleTimer := none } st) where
  fields hf := by
    obtain ⟨-, hgeometry, hlegal⟩ := hf
    rcases h with ⟨rfl, -, hcause⟩ | ⟨rfl, -, rfl⟩
    · exact ⟨by simp [Spindle.enter, hcause], by simp [Spindle.enter, hgeometry, hconfigured], hlegal⟩
    · exact ⟨by simp [Spindle.enter], by simp [Spindle.enter, hgeometry, hconfigured], hlegal⟩
  flags _ := by simp [Spindle.Flagged, Spindle.FlagsMatchState, Spindle.enter]
  presence hr _ := hpresence hr

/-- A spindle that stays configured, unfaulted and present. -/
theorem Spindle.Matches.in_service {r u : Spindle} (hr : r.state ≠ .unconfigured ∧ r.state ≠ .absent ∧ r.state ≠ .faulted)
    (hu : u.state ≠ .unconfigured ∧ u.state ≠ .absent ∧ u.state ≠ .faulted)
    (hsame : u.cause = r.cause ∧ u.geometry = r.geometry ∧ u.lines = r.lines) (hflags : r.Flagged → u.Flagged) : r.Matches u where
  fields hf := by
    obtain ⟨hcause, hgeometry, hlegal⟩ := hf
    simp only [hr, iff_false, ne_eq, not_false_eq_true, iff_true] at hcause hgeometry
    obtain ⟨hsameCause, hsameGeometry, -⟩ := hsame
    exact ⟨by simp [hsameCause, hcause, hu], by simp [hsameGeometry, hgeometry, hu], hsameGeometry ▸ hlegal⟩
  flags := hflags
  presence hp _ := by
    have hconfigured : r.configured = true := by simp [Spindle.configured, hr]
    have hpres := hp hconfigured
    simp only [hr, false_iff] at hpres
    simpa [hu, hsame] using hpres

/-! ### Faults and presence -/

theorem State.outOfService_eq_moved (st : SpindleState) (cause : Option Cause) (l : Lines) :
    (s.setLines p l).outOfService p st cause =
      (s.modSpindle p fun r => { r with
        lines := l, cause := cause, pinned := false, respin := false, idleTimer := none }).enterState p st := by
  rw [State.outOfService, State.setLines, State.modSpindle_modSpindle]
  rfl

/-- R39, R40: a spindle leaves service, with the levels that stand on its lines. -/
theorem State.leaveService_kept {st : SpindleState} {o : Outcome} {cause : Option Cause} (h : OutOfService st o cause) (l : Lines)
    (hconfigured : (s.spindle p).state ≠ .unconfigured)
    (hpresence : (s.spindle p).PresenceShown → (st = .absent ↔ l.pres = false)) :
    Kept s ((s.setLines p l).leaveService p st o cause) := by
  obtain ⟨-, hwait, hup, -, hspinning⟩ := h.resting
  have hout := State.entered_kept (s := s) (p := p) (st := st)
    (f := fun r => { r with lines := l, cause := cause, pinned := false, respin := false, idleTimer := none })
    hwait rfl (fun hs => absurd (hspinning.symm.trans hs) Bool.false_ne_true) hup
    (.enter_resting (by rfl) (by rfl) (by rfl) (.inr (by rfl)) hspinning) (by simp [Spindle.enter])
    fun _ => .out_of_service h hconfigured l hpresence
  rw [← State.outOfService_eq_moved] at hout
  exact (hout.trans (State.abortChannel_kept _ _)).trans (State.completeAll_kept _ _ _ _)

theorem State.setLines_self : s.setLines p (s.spindle p).lines = s := by
  obtain ⟨hframe, hsame, hother⟩ := s.setLines_changes p (s.spindle p).lines
  rw [hframe, State.spindles_ext (s := s) fun q => ?_]
  by_cases hq : q = p
  · rw [hq, hsame]
  · exact hother q hq

theorem State.enterFaulted_kept (c : Cause) (hconfigured : (s.spindle p).state ≠ .unconfigured)
    (hpresent : (s.spindle p).state ≠ .absent) :
    Kept s (s.enterFaulted p c) := by
  have hleave := State.leaveService_kept (s := s) (p := p) (o := .spindleFault) (cause := some c) (.inl ⟨rfl, rfl, rfl⟩)
    (s.spindle p).lines hconfigured fun hp => by
      have hpres := hp (by simp [Spindle.configured, hconfigured])
      simpa [hpresent] using hpres
  rwa [State.setLines_self] at hleave

/-- Levels that leave PRES as it is. -/
theorem State.setLines_kept {l : Lines} (h : l.pres = (s.spindle p).lines.pres) : Kept s (s.setLines p l) := by
  refine State.modSpindle_kept rfl ⟨id, id, id⟩ .inl ⟨id, id, fun hp => ?_⟩
  simp only [Spindle.PresenceShown, h]
  exact hp

/-- R14, R40: a fall of PRES. -/
theorem State.presFall_kept (hpres : (s.spindle p).lines.pres = true) : Kept s ((s.setPres p false).presFall p) := by
  rw [State.setPres_eq]
  obtain ⟨l, hl⟩ : ∃ l : Lines, l = { (s.spindle p).lines with pres := false } := ⟨_, rfl⟩
  rw [← hl]
  have hfalse : l.pres = false := by rw [hl]
  have hstate : ((s.setLines p l).spindle p).state = (s.spindle p).state := by rw [State.setLines_spindle_same]
  have stays (h : (s.spindle p).state = .unconfigured ∨ (s.spindle p).state = .absent) : Kept s (s.setLines p l) := by
    refine State.modSpindle_kept rfl ⟨id, id, id⟩ .inl ⟨id, id, fun hp hconfigured => ?_⟩
    rcases h with h | h
    · simp [Spindle.configured, h] at hconfigured
    · have hshown := hp hconfigured
      simp [h, hpres] at hshown
  unfold State.presFall
  rw [hstate]
  split
  · next h => exact stays (.inl h)
  · next h => exact stays (.inr h)
  · next hconfigured _ =>
    rw [State.enterAbsent_eq]
    exact State.leaveService_kept (.inr ⟨rfl, rfl, rfl⟩) l hconfigured fun _ => by simp [hfalse]

/-- R40: a rise of PRES. -/
theorem State.presRise_kept (hpres : (s.spindle p).lines.pres = false) : Kept s ((s.setPres p true).presRise p) := by
  rw [State.setPres_eq]
  obtain ⟨l, hl⟩ : ∃ l : Lines, l = { (s.spindle p).lines with pres := true } := ⟨_, rfl⟩
  rw [← hl]
  have htrue : l.pres = true := by rw [hl]
  have hstate : ((s.setLines p l).spindle p).state = (s.spindle p).state := by rw [State.setLines_spindle_same]
  unfold State.presRise
  rw [hstate]
  split
  · next habsent =>
    refine State.entered_kept (s := s) (f := fun r => { r with lines := l }) (by decide) rfl (by simp [SpindleState.spinning]) (by decide)
      (.enter_resting (by rfl) (by rfl) (by rfl) (.inl (by rfl)) rfl) (by simp [Spindle.enter, habsent]) fun _ =>
      ⟨fun hf => ?fields, fun hf => ?flags, fun _ _ => by simp [Spindle.enter, htrue]⟩
    case fields => simpa [Spindle.FieldsMatchState, Spindle.enter, habsent] using hf
    case flags =>
      obtain ⟨⟨hrespin, hpinned⟩, hidle⟩ := hf
      simp only [habsent, reduceCtorEq, imp_false, false_and, or_self] at hrespin hpinned hidle
      simp_all [Spindle.Flagged, Spindle.FlagsMatchState, Spindle.enter]
  · next hother =>
    refine State.modSpindle_kept rfl ⟨id, id, id⟩ .inl ⟨id, id, fun hp hconfigured => ?_⟩
    exact absurd ((hp hconfigured).mpr hpres) hother

end

end Sys2Proof.Machine
end

section
/-! The spin budget, the wait list and spinning down keep every invariant (R20, R21, R23 to R35, R43), and so does the end of an event. -/

-- One declaration after another: elaborated in parallel, these files ask for more memory than a check has.
set_option Elab.async false

namespace Sys2Proof.Machine

section
variable {s : State} {p : Port}

/-! ### Spinning down -/

/-- R30: a spindle begins to spin down; with its pinned flag set only where an idle timer runs, which is nowhere. -/
theorem State.beginSpinDown_kept (hstate : (s.spindle p).state = .ready ∨ (s.spindle p).state = .spinningUp)
    (hpinned : (s.spindle p).pinned = false ∨ (s.spindle p).idleTimer.isSome = true) : Kept s (s.beginSpinDown p) := by
  have hbegin : s.beginSpinDown p = ((s.modSpindle p id).enterState p .spinningDown).modSpindle p fun r =>
      { r with spinDownTimer := some (s.now + secondsUs s.params.spindownTimeout) } := by rw [State.modSpindle_id]; rfl
  have hspinning : (s.spindle p).state.spinning = true := by rcases hstate with h | h <;> rw [h] <;> rfl
  rw [hbegin]
  refine State.moved_out_kept (by decide) rfl (fun _ => rfl) (fun _ => hspinning) (by decide)
    (.enter_spinningDown (by rfl) (by rfl) (by rfl) (.inl (by rfl)) _) Spindle.enter_idle_isSome fun _ =>
    .in_service (by rcases hstate with h | h <;> simp [h]) (by simp [Spindle.enter]) ⟨rfl, rfl, rfl⟩ fun hf => ?_
  obtain ⟨-, hran⟩ := hf
  have hunpinned : (s.spindle p).pinned = false := hpinned.elim id fun hi => (hran hi).2
  refine ⟨⟨by simp [Spindle.enter], by simp [Spindle.enter, hunpinned]⟩, fun hi => ?_⟩
  rcases hstate with h | h
  · simp [Spindle.enter, h] at hi
  · exact absurd (h.symm.trans (hran (Spindle.enter_idle_isSome hi)).1) (by decide)

/-- R31: a spin-down ends. -/
theorem State.endSpinDown_kept (hdown : (s.spindle p).state = .spinningDown) : Kept s (s.endSpinDown p) := by
  have hframe := State.endSpinDown_eq hdown
  obtain ⟨r, hr⟩ : ∃ r, r = s.spindle p := ⟨_, rfl⟩
  obtain ⟨t, ht⟩ : ∃ t, t = s.endSpinDown p := ⟨_, rfl⟩
  have hsame := State.endSpinDown_spindle_same hdown
  have hothers : ∀ q, q ≠ p → t.spindle q = s.spindle q := fun q hq => by rw [ht, State.endSpinDown_spindle_of_ne hq]
  rw [← ht, ← hr] at hsame hframe
  rw [← ht]
  rw [← hr] at hdown
  have hstate : (t.spindle p).state = if r.respin then .spinWait else .parked := by rw [hsame]
  have hchange : PortChange s t p := by
    refine ⟨hothers, by rw [hframe], by rw [hframe], by rw [hframe],
      .same (State.roll_map (f := Request.spindleEvaluated p true) (by rw [hframe]) fun q => ?_) (by rw [hframe]), fun h => ?_⟩
    · unfold Request.spindleEvaluated
      split <;> simp
    · have hparked : ({ s with events := stateChangePosted p .parked none s.events } : State).EventsSound := h.posted rfl (by simp)
      rw [hframe]
      by_cases hrespin : r.respin = true
      · exact hparked.posted (if_pos hrespin) (by simp)
      · exact h.posted (if_neg hrespin) (by simp)
  refine Kept.onPort hchange ?_ ?_ (fun _ => ?_) (fun h => h.update hothers hchange.params ?_ ?_) (fun h => ?_) (by rw [hframe]; exact id)
  case refine_1 =>
    rw [← hr]
    refine ⟨fun h => ?_, fun ⟨hup, _, hran⟩ => ?_, fun _ => ?_⟩
    · rw [hsame]
      simp only [hdown, ne_eq, reduceCtorEq, not_false_eq_true, iff_true] at h
      split <;> simp [h]
    · rw [hsame]
      simp only [hdown, reduceCtorEq, iff_false, false_and, imp_false] at hup hran
      cases r.respin <;> simp [Spindle.TimersRun, hran]
    · rw [hsame]
      simp [Spindle.TrackerSound, Tracker.cleared]
  case refine_2 => rw [← hr, hsame]; exact .inl
  case refine_3 =>
    rw [← hr]
    refine .in_service (by simp [hdown]) (by rw [hstate]; cases r.respin <;> simp) ⟨by rw [hsame], by rw [hsame], by rw [hsame]⟩
      fun ⟨⟨_, hpinned⟩, hran⟩ => ?_
    rw [hsame]
    simp only [hdown, reduceCtorEq, false_or, true_and, false_and, imp_false] at hpinned hran
    cases hrespin : r.respin with
    | true => simp [Spindle.Flagged, Spindle.FlagsMatchState, hran]
    | false =>
      have hunpinned : r.pinned = false := by simpa [hrespin] using hpinned
      simp [Spindle.Flagged, Spindle.FlagsMatchState, hran, hunpinned]
  case refine_4 => rw [hstate, ← hr, hdown]; split <;> simp [SpindleState.spinning]
  case refine_5 => rw [hstate]; split <;> simp
  case refine_6 =>
    have hout : (s.spindle p).state ≠ .spinWait := by simp [← hr, hdown]
    by_cases hrespin : r.respin = true
    · exact h.join hothers (by rw [hframe]; exact if_pos hrespin) hout (by rw [hstate, if_pos hrespin])
    · refine h.leave hothers ?_ (by rw [hstate, if_neg hrespin]; decide)
      rw [if_neg hout, hframe]
      exact if_neg hrespin

/-- R30, R31: a spindle enters SPINNING_DOWN, and leaves it at once with SPUN deasserted. -/
theorem State.enterSpinningDown_kept (hstate : (s.spindle p).state = .ready ∨ (s.spindle p).state = .spinningUp)
    (hpinned : (s.spindle p).pinned = false ∨ (s.spindle p).idleTimer.isSome = true) : Kept s (s.enterSpinningDown p) := by
  have hbegin := State.beginSpinDown_kept hstate hpinned
  rw [State.enterSpinningDown_eq]
  split
  · exact hbegin
  · refine hbegin.trans (State.endSpinDown_kept ?_)
    rw [State.beginSpinDown_spindle_same]
    rfl

/-! ### The wait list -/

/-- R20, R25: a PARKED spindle joins the wait list, as it stands or pinned. -/
theorem State.joinWait_kept (hparked : (s.spindle p).state = .parked) (b : Bool) :
    Kept s ((s.modSpindle p fun r => { r with pinned := b }).joinWait p) := by
  obtain ⟨t, ht⟩ : ∃ t, t = s.moved p (fun r => { r with pinned := b }) (s.waitList ++ [p]) .spinWait id := ⟨_, rfl⟩
  have hjoin : (s.modSpindle p fun r => { r with pinned := b }).joinWait p = t := by
    rw [ht, State.moved, State.modSpindle_id]
    rfl
  have hstate : (t.spindle p).state = .spinWait := by
    rw [ht, State.moved_same]
    rfl
  have hothers : ∀ q, q ≠ p → t.spindle q = s.spindle q := fun q hq => by rw [ht]; exact State.moved_of_ne hq
  rw [hjoin]
  have hkept := State.moved_kept (s := s) (p := p) (f := fun r => { r with pinned := b }) (w := s.waitList ++ [p]) (st := .spinWait)
    (g := id) (.enter_resting (by rfl) (by rfl) (by rfl) (.inl (by rfl)) rfl) (by simp [Spindle.enter, hparked])
    (fun _ => .in_service (by simp [hparked]) (by simp [Spindle.enter]) ⟨rfl, rfl, rfl⟩ fun hf => ?flags)
  case flags =>
    obtain ⟨⟨hrespin, hpinned⟩, hran⟩ := hf
    simp only [hparked, reduceCtorEq, imp_false, false_and, or_self] at hrespin hpinned hran
    refine ⟨⟨by simp [Spindle.enter, hrespin], by simp [Spindle.enter]⟩, by simp [Spindle.enter, hparked, hran]⟩
  rw [← ht] at hkept
  refine hkept (fun h => h.update hothers ?_ ?_ ?_) fun h => h.join hothers ?_ (by simp [hparked]) hstate
  · rw [ht]; exact State.moved_change.params
  · rw [hstate]; simp [SpindleState.spinning]
  · rw [hstate]; simp
  · rw [ht, State.moved_waitList rfl]; simp

theorem State.joinWait_plain_kept (hparked : (s.spindle p).state = .parked) : Kept s (s.joinWait p) := by
  have hkept := State.joinWait_kept hparked (s.spindle p).pinned
  have hself : (s.modSpindle p fun r => { r with pinned := (s.spindle p).pinned }) = s :=
    (State.modSpindle_congr rfl).trans (s.modSpindle_id p)
  rwa [hself] at hkept

/-- R21, R43: an unpinned spindle in SPIN_WAIT goes to PARKED. -/
theorem State.park_kept (hwait : (s.spindle p).state = .spinWait) (hpinned : (s.spindle p).pinned = false) :
    Kept s (s.enterState p .parked) := by
  have hself : (s.modSpindle p id).enterState p .parked = s.enterState p .parked := by rw [State.modSpindle_id]
  rw [← hself]
  refine State.entered_kept (by decide) rfl (by simp [SpindleState.spinning]) (by decide)
    (.enter_resting (by rfl) (by rfl) (by rfl) (.inl (by rfl)) rfl) (by simp [Spindle.enter, hwait]) fun _ =>
    .in_service (by simp [hwait]) (by simp [Spindle.enter]) ⟨rfl, rfl, rfl⟩ fun ⟨⟨hrespin, _⟩, hran⟩ => ?_
  simp only [hwait, reduceCtorEq, imp_false, false_and] at hrespin hran
  exact ⟨⟨by simp [Spindle.enter, hrespin], by simp [Spindle.enter, hpinned]⟩, by simp [Spindle.enter, hwait, hran]⟩

/-- R24, R26: a start within both limits. -/
theorem State.startHead_kept (hcan : s.canStart = true) : Kept s s.startHead := by
  obtain ⟨hlist, hspinning, hrising⟩ := (State.canStart_iff s).mp hcan
  obtain ⟨p, rest, hcons⟩ := List.exists_cons_of_ne_nil hlist
  obtain ⟨t, ht⟩ : ∃ t, t = s.moved p id rest .spinningUp fun r =>
      { r with spinUpTimer := some (s.now + secondsUs s.params.spinupTimeout) } := ⟨_, rfl⟩
  have hstart : s.startHead = t := by rw [ht, State.moved, State.modSpindle_id, State.startHead_waiting hcons]
  have hstate : (t.spindle p).state = .spinningUp := by
    rw [ht, State.moved_same]
    rfl
  have hothers : ∀ q, q ≠ p → t.spindle q = s.spindle q := fun q hq => by rw [ht]; exact State.moved_of_ne hq
  have hparams : t.params = s.params := by rw [ht]; exact State.moved_change.params
  rw [hstart, ht]
  refine State.moved_kept (.enter_spinningUp (by rfl) (by rfl) (by rfl) (.inl (by rfl)) _) ?_ (fun h => ?_) ?_ (fun h => ?_)
  all_goals try rw [← ht]
  · exact Spindle.enter_idle_isSome
  · have hwait : (s.spindle p).state = .spinWait := (h.2 p).mp (by simp [hcons])
    refine .in_service (by simp [hwait]) (by simp [Spindle.enter]) ⟨rfl, rfl, rfl⟩ fun ⟨⟨hrespin, _⟩, hran⟩ => ?_
    simp only [hwait, reduceCtorEq, imp_false, false_and] at hrespin hran
    exact ⟨⟨by simp [Spindle.enter, hrespin], by simp [Spindle.enter]⟩, by simp [Spindle.enter, hwait, hran]⟩
  · intro _
    have count (c : SpindleState → Bool) : t.countIn c ≤ s.countIn c + 1 := by
      have hupdate := State.countIn_update (s := s) (t := t) (p := p) (fun q hq => by rw [hothers q hq]) c
      have hle : (c (t.spindle p).state).toNat ≤ 1 := Bool.toNat_le _
      omega
    unfold State.BudgetKept
    rw [State.spinningCount_eq] at hspinning ⊢
    rw [State.risingCount_eq] at hrising ⊢
    rw [hparams]
    exact ⟨Nat.le_trans (count _) hspinning, Nat.le_trans (count _) hrising⟩
  · have hwait : (s.spindle p).state = .spinWait := (h.2 p).mp (by simp [hcons])
    obtain ⟨hnew, hnodup⟩ := List.nodup_cons.mp (hcons ▸ h.1)
    have hrest : t.waitList = rest := by
      rw [ht, State.moved_waitList rfl]
      simp only [hwait, ne_eq, reduceCtorEq, not_false_eq_true, and_self, if_true]
      exact List.filter_eq_self.mpr fun q hq => by simpa using fun heq : q = p => hnew (heq ▸ hq)
    exact h.update hothers (hrest ▸ hnodup) (fun q hq => by simp [hrest, hcons, hq]) (by simp [hrest, hnew, hstate])

end

/-! ### The end of an event -/

theorem State.budgetRounds_kept (n : Nat) (s : State) : Kept s (s.budgetRounds n) := by
  induction n generalizing s with
  | zero => exact Kept.refl s
  | succ n ih =>
    rw [State.budgetRounds_succ]
    split
    · next hcan => exact (State.startHead_kept hcan).trans (ih _)
    · cases hevict : s.evictChoice with
      | none => exact Kept.refl s
      | some p =>
        obtain ⟨-, -, -, -, heligible, -⟩ := (State.evictChoice_iff s p).mp hevict
        obtain ⟨hready, hpinned, -, -⟩ := (State.evictable_iff s p).mp heligible
        exact (State.enterSpinningDown_kept (.inl hready) (.inl hpinned)).trans (ih _)

theorem State.evalBudget_kept (s : State) : Kept s s.evalBudget := State.budgetRounds_kept _ s

theorem State.seekEligible_ready {s : State} {p : Port} {a : Nat} (h : s.seekEligible p = some a) : (s.spindle p).state = .ready := by
  unfold State.seekEligible at h
  split at h
  · next hready => simp_all
  · cases h

theorem State.chooseSeek_kept (s : State) (p : Port) : Kept s (s.chooseSeek p) := by
  unfold State.chooseSeek
  split
  · exact Kept.refl s
  · next heligible =>
    split
    · exact Kept.refl s
    · exact State.modArm_kept (.inr (by simp [State.seekEligible_ready heligible]))

theorem State.engage_kept (s : State) (r : Request) : Kept s (s.engage r) := by
  refine .quiet (.same (State.roll_map (by rw [State.engage_eq, State.engaged]) fun q => ?_) (by simp))
  split <;> simp

theorem State.chooseChannel_kept (s : State) : Kept s s.chooseChannel := by
  unfold State.chooseChannel
  split
  · exact Kept.refl s
  · split
    · exact Kept.refl s
    · exact s.engage_kept _

theorem State.reevaluate_kept (s : State) : Kept s s.reevaluate := by
  unfold State.reevaluate
  split
  · exact Kept.refl s
  · exact (Kept.foldl State.chooseSeek_kept _ s).trans (State.chooseChannel_kept _)

/-! ### The clearing step -/

theorem State.EventsSound.nil {s : State} (h : s.events = []) : s.EventsSound := by simp [State.EventsSound, h]

/-- R181: the Stream, the Event Queue, the notice record and the table emptied, seeks left without owners. -/
theorem State.emptied_kept (s : State) : Kept s s.flushOutbound.removeRequests := by
  have hflush : Kept s s.flushOutbound :=
    .still (by simp) (by simp) (by simp) (by simp) (by simp)
      ⟨State.roll_sublist_of_eq (State.roll_map (s := s) (f := Request.afterReturn s.streamBuffers) (t := s.flushOutbound)
            (by simp [State.flushOutbound, State.returnBuffers_eq]) (Request.afterReturn_same _)),
        by simp [State.flushOutbound, State.returnBuffers_eq, State.streamDones]⟩
      (fun _ => .nil (by simp [State.flushOutbound])) (by simp [State.MediaSound])
  obtain ⟨u, hu⟩ : ∃ u, u = allPorts.foldl State.orphanSeek (s.flushOutbound.returnBuffers s.flushOutbound.stagedBuffers) := ⟨_, rfl⟩
  have horphan : Kept s u :=
    hu ▸ (hflush.trans (State.returnBuffers_kept _ _)).trans (Kept.foldl State.orphanSeek_kept _ _)
  refine horphan.trans ?_
  rw [State.removeRequests, ← hu]
  exact .quiet ⟨List.nil_sublist _, by simp [State.streamDones]⟩

theorem State.restartPark_kept (s : State) (p : Port) : Kept s (s.restartPark p) := by
  unfold State.restartPark
  split
  · next h => exact State.park_kept h.1 h.2
  · exact Kept.refl s

/-- R43: with the table empty an unpinned spindle's respin is cleared and its idle timer may start. -/
theorem State.restartSpindle_kept {s : State} (hempty : s.table = []) (p : Port) : Kept s (s.restartSpindle p) := by
  have hidle : s.requestCount p = 0 := by simp [State.requestCount, State.requestsOf, hempty]
  rw [State.restartSpindle_eq]
  obtain ⟨r, hr⟩ : ∃ r, r = s.spindle p := ⟨_, rfl⟩
  have hkept : (r.restarted s.params s.now).state = r.state ∧ r.Keeps s.params.trackFaultLimit (r.restarted s.params s.now) ∧
      r.Matches (r.restarted s.params s.now) := by
    unfold Spindle.restarted
    split
    · exact ⟨rfl, ⟨id, id, id⟩, id, id, id⟩
    · next hpinned =>
      by_cases hready : r.state = .ready
      · have hran (x : Option Nat) : x.isSome = true → r.state = .ready ∧ r.pinned = false := fun _ => ⟨hready, by simpa using hpinned⟩
        exact ⟨rfl, ⟨id, fun h => ⟨h.1, h.2.1, hran _⟩, id⟩, id, fun _ => ⟨⟨by simp, by simp [hpinned]⟩, hran _⟩, id⟩
      · simp only [hready, if_false]
        exact ⟨trivial, ⟨id, id, id⟩, id, fun h => ⟨⟨by simp, by simp [hpinned]⟩, h.2⟩, id⟩
  obtain ⟨hstate, hkeeps, hmatches⟩ := hkept
  rw [hr] at hstate hkeeps hmatches
  exact State.modSpindle_kept hstate hkeeps (fun _ => .inr hidle) hmatches

theorem State.foldl_restartSpindle_kept (l : List Port) {s : State} (hempty : s.table = []) :
    Kept s (l.foldl State.restartSpindle s) := by
  induction l generalizing s with
  | nil => rw [List.foldl_nil]; exact Kept.refl s
  | cons p l ih =>
    rw [List.foldl_cons]
    exact (State.restartSpindle_kept hempty p).trans (ih (by simp [hempty]))

theorem State.clearingStep_kept (s : State) (moved : List Port) : Kept s (s.clearingStep moved) := by
  obtain ⟨u, hu⟩ : ∃ u, u = s.flushOutbound.removeRequests := ⟨_, rfl⟩
  have hempty : u.table = [] := by rw [hu]; rfl
  obtain ⟨v, hv⟩ : ∃ v, v = moved.foldl State.touchActivity (allPorts.foldl State.restartPark u) := ⟨_, rfl⟩
  have huv : Kept u v := hv ▸ (Kept.foldl State.restartPark_kept _ u).trans (Kept.foldl State.touchActivity_kept moved _)
  have hvempty : v.table = [] := by
    have hlength := huv.roll.length_le
    rw [State.length_roll, State.length_roll, hempty] at hlength
    exact List.eq_nil_of_length_eq_zero (Nat.le_zero.mp hlength)
  have hrestart : Kept s (u.restartSpindles moved) := by
    rw [State.restartSpindles, ← hv]
    exact ((hu ▸ s.emptied_kept).trans huv).trans (State.foldl_restartSpindle_kept _ hvempty)
  refine hrestart.trans ?_
  rw [State.clearingStep, ← hu]
  exact .quiet (.same (State.roll_congr (by simp)) (by simp))

/-- The end of an event keeps every invariant. -/
theorem finish_kept (before after : State) : Kept after (finish before after) := by
  unfold finish
  have cleared : Kept after (if stopDone before after then after.clearingStep (spindlesCleared before after) else after) := by
    split
    · exact State.clearingStep_kept _ _
    · exact Kept.refl _
  have budgeted {u : State} (h : Kept after u) : Kept after (if budgetDue before u then u.evalBudget else u) := by
    split
    · exact h.trans u.evalBudget_kept
    · exact h
  have scheduled {u : State} (h : Kept after u) : Kept after (if scheduleDue before u then u.reevaluate else u) := by
    split
    · exact h.trans u.reevaluate_kept
    · exact h
  exact scheduled (budgeted cleared)

/-! ### Replies and transmission -/

theorem State.pushReply_kept (s : State) (kind seq : Byte) (code : Code) (further : List Byte) :
    Kept s (s.pushReply kind seq code further) := .quiet (.same (State.roll_congr (by simp)) (by simp))

theorem State.transmit_kept (s : State) (kind : Byte) (body : List Byte) (b : Bool) : Kept s (s.transmit kind body b) :=
  .quiet (.same (State.roll_congr (by simp)) (by simp))

theorem State.EventsSound.tail {s t : State} {e : EventRecord} (h : s.EventsSound) (heq : s.events = e :: t.events) : t.EventsSound := by
  obtain ⟨hnodup, hrecords⟩ := h
  rw [heq] at hnodup hrecords
  exact ⟨(List.nodup_cons.mp hnodup).2, fun r hr => hrecords r (List.mem_cons_of_mem _ hr)⟩

theorem State.setStream_kept {s : State} {x : StreamEntry} {rest : List StreamEntry} (h : s.stream = x :: rest) :
    Kept s (s.setStream rest) := by
  refine .quiet ⟨State.roll_sublist_of_eq (State.roll_congr (by simp)), ?_⟩
  simp only [State.streamDones, h, State.setStream_stream, List.filter_cons]
  split <;> simp

theorem State.arbitrate_kept (s : State) : Kept s s.arbitrate := by
  unfold State.arbitrate
  split
  · exact Kept.trans (.quiet (.same (State.roll_congr (by simp)) (by simp))) (State.transmit_kept _ _ _ _)
  · split
    · exact Kept.trans (.quiet (.same (State.roll_congr (by simp)) (by simp))) (State.transmit_kept _ _ _ _)
    · split
      · next e rest hevents =>
        refine Kept.trans ?_ (State.transmit_kept _ _ _ _)
        exact .still (by simp) (by simp) (by simp) (by simp) (by simp) (.same (State.roll_congr (by simp)) (by simp))
          (fun h => h.tail (e := e) (by rw [hevents]; simp)) (by simp [State.MediaSound])
      · split
        · next h => exact (State.setStream_kept h).trans (State.transmit_kept _ _ _ _)
        · next h => exact (State.setStream_kept h).trans (State.transmit_kept _ _ _ _)
        · exact Kept.refl s

theorem serve_kept (before after : State) : Kept after (serve before after) := by
  unfold serve
  split
  · exact after.arbitrate_kept
  · exact Kept.refl after

theorem settle_kept (before after : State) : Kept after (settle before after) := (finish_kept before after).trans (serve_kept _ _)

end Sys2Proof.Machine
end

section
/-! The events and the messages keep every invariant. -/

-- One declaration after another: elaborated in parallel, these files ask for more memory than a check has.
set_option Elab.async false

namespace Sys2Proof.Machine

/-! ### Arm Control -/

section
variable {s : State} {p : Port}

/-- R68: ARM_LOST and the restore on a READY spindle; the arm of any other is UNKNOWN. -/
theorem State.armLost_kept (s : State) (p : Port) : Kept s (s.armLost p) := by
  by_cases hready : (s.spindle p).state = .ready
  · obtain ⟨hframe, hsame, hother⟩ := State.armLost_changes hready
    obtain ⟨t, ht⟩ : ∃ t, t = s.armLost p := ⟨_, rfl⟩
    rw [← ht] at hframe hsame hother ⊢
    have hchange : PortChange s t p := ⟨hother, by rw [hframe], by rw [hframe], by rw [hframe],
      .same (State.roll_congr (by rw [hframe])) (by rw [hframe]), fun h => h.posted (congrArg State.events hframe) (by simp)⟩
    refine Kept.onPort hchange (by rw [hsame]; exact .moved_arm _ (.inr (by simp [hready]))) (by rw [hsame]; exact .inl)
      (fun _ => by rw [hsame]; exact ⟨id, id, id⟩) (fun h => h.update hother hchange.params ?_ ?_)
      (fun h => h.stay hother (by rw [hframe]) (by rw [hsame])) (by rw [hframe]; exact id)
    all_goals rw [hsame]; exact id
  · have hunknown : Kept s ((s.modSpindle p fun r => { r with arm := .unknown }).post p eventArmLost) :=
      (State.modArm_kept (a := fun _ => .unknown) (o := Spindle.orders) (.inr (by simp [hready]))).trans (State.post_kept _ _ _)
    rw [State.armLost, State.issueRestore_idle (by simpa using hready)]
    exact hunknown

theorem State.modSpindle_comm {f g : Spindle → Spindle} (h : ∀ r, f (g r) = g (f r)) (s : State) (p q : Port) :
    (s.modSpindle p f).modSpindle q g = (s.modSpindle q g).modSpindle p f := by
  have hspindles : ((s.modSpindle p f).modSpindle q g).spindles = ((s.modSpindle q g).modSpindle p f).spindles := by
    refine State.spindles_ext fun x => ?_
    simp only [State.spindle_modSpindle]
    split <;> split <;> simp [h]
  calc (s.modSpindle p f).modSpindle q g
      = { s with spindles := ((s.modSpindle p f).modSpindle q g).spindles } := rfl
    _ = { s with spindles := ((s.modSpindle q g).modSpindle p f).spindles } := by rw [hspindles]
    _ = (s.modSpindle q g).modSpindle p f := rfl

/-- A change of arms and orders that seek owners do not touch commutes with a completion. -/
theorem State.complete_modSpindle {f : Spindle → Spindle} {a : Arm} {o : Orders → Orders}
    (hf : f = fun r => { r with arm := a, orders := o r.orders }) (t : Tag) (ha : a.withoutOwner t = a) (out : Outcome)
    (cause : Option Cause) : (s.modSpindle p f).complete t out cause = (s.complete t out cause).modSpindle p f := by
  have hrequest : (s.modSpindle p f).request t = s.request t := State.request_congr (by simp) t
  cases hr : s.request t with
  | none => rw [State.complete_free hr, State.complete_free (hrequest.trans hr)]
  | some r =>
    have htag := State.request_tag hr
    subst htag
    have hcompleted : (s.modSpindle p f).completed r out cause = (s.completed r out cause).modSpindle p f := by
      have hcomm : (s.modSpindle p f).clearOwner r.spindle r.tag = (s.clearOwner r.spindle r.tag).modSpindle p f :=
        State.modSpindle_comm (fun x => by simp [hf, ha]) s p r.spindle
      rw [State.completed, hcomm]
      rfl
    rw [State.complete_eq hr, State.complete_eq (hrequest.trans hr), hcompleted]
    obtain ⟨u, hu⟩ : ∃ u, u = s.completed r out cause := ⟨_, rfl⟩
    rw [← hu]
    have hcount : (u.modSpindle p f).requestCount r.spindle = u.requestCount r.spindle := State.requestCount_congr (by simp) _
    have hrecord : ((u.modSpindle p f).spindle r.spindle).state = (u.spindle r.spindle).state ∧
        ((u.modSpindle p f).spindle r.spindle).pinned = (u.spindle r.spindle).pinned := by
      rw [State.spindle_modSpindle, hf]
      split <;> exact ⟨rfl, rfl⟩
    have hparams : (u.modSpindle p f).params = u.params := by simp
    rw [State.startIdle, State.startIdle, hcount, hrecord.1, hrecord.2, hparams]
    split
    · exact State.modSpindle_comm (fun x => by simp [hf]) u p r.spindle
    · rfl

theorem State.complete_state (s : State) (t : Tag) (o : Outcome) (cause : Option Cause) (q : Port) :
    ((s.complete t o cause).spindle q).state = (s.spindle q).state := by
  cases hr : s.request t with
  | none => rw [State.complete_free hr]
  | some r =>
    have hcompleted : ((s.completed r o cause).spindle q).state = (s.spindle q).state := by
      rw [State.completed_spindle]
      split <;> rfl
    rw [State.complete_eq hr, ← hcompleted]
    obtain ⟨-, hsame, hother⟩ := (s.completed r o cause).startIdle_changes r.spindle
    by_cases hq : q = r.spindle
    · rw [hq, hsame]
    · rw [hother q hq]

/-- R64: the restore that follows a seek's failure, issued before the owner is charged. -/
theorem State.seekFailed_eq_armLost (hready : (s.spindle p).state = .ready) (owner : Option Tag) :
    s.seekFailed p owner = (s.armLost p).chargeOwner owner := by
  obtain ⟨w, hw⟩ : ∃ w, w = s.seekLost p := ⟨_, rfl⟩
  have hstate : (w.spindle p).state = .ready := by rw [hw, State.seekLost, State.post_spindle, State.setArm]; simpa using hready
  have hlost : s.armLost p = w.issueRestore p := by rw [hw]; rfl
  obtain ⟨restore, hrestore⟩ : ∃ f : Spindle → Spindle, f = fun r => { r with
    arm := .restoring (w.now + millisUs w.params.seekTimeout)
    orders := { r.orders with restoreStrobes := r.orders.restoreStrobes + 1 } } := ⟨_, rfl⟩
  have issued {u : State} (hu : (u.spindle p).state = .ready) (hnow : u.now = w.now) (hparams : u.params = w.params) :
      u.issueRestore p = u.modSpindle p restore := by
    rw [State.issueRestore, if_pos hu, hrestore, hnow, hparams]
  rw [State.seekFailed_eq, ← hw, hlost, issued hstate rfl rfl]
  have hrequest (t : Tag) : (w.modSpindle p restore).request t = w.request t := State.request_congr (by simp) t
  cases owner with
  | none => exact issued hstate rfl rfl
  | some t =>
    cases hr : w.request t with
    | none =>
      have habsent (u : State) (hu : u.request t = none) : u.chargeOwner (some t) = u :=
        State.chargeOwner_absent fun x hx => Option.some.inj hx ▸ hu
      rw [habsent w hr, habsent _ ((hrequest t).trans hr), issued hstate rfl rfl]
    | some r =>
      by_cases hbudget : r.budget = 0
      · rw [State.chargeOwner_exhausted hr hbudget, State.chargeOwner_exhausted ((hrequest t).trans hr) hbudget,
          issued (by rw [State.complete_state, hstate]) (by simp) (by simp)]
        exact (State.complete_modSpindle (o := fun x => { x with restoreStrobes := x.restoreStrobes + 1 }) hrestore t rfl _ _).symm
      · rw [State.chargeOwner_spent hr hbudget, State.chargeOwner_spent ((hrequest t).trans hr) hbudget]
        exact issued (u := { w with table := retrySpent t w.table }) hstate rfl rfl

end

section
variable (s : State)

theorem State.chargeOwner_kept (owner : Option Tag) : Kept s (s.chargeOwner owner) := by
  unfold State.chargeOwner
  split
  · exact Kept.refl s
  · split
    · exact Kept.refl s
    · split
      · exact s.complete_kept _ _ _
      · exact s.modRequest_kept _ (by exact fun _ => ⟨rfl, rfl⟩)

theorem State.motionDone_kept {p : Port} (hready : (s.spindle p).state = .ready) : Kept s (s.motionDone p) := by
  unfold State.motionDone
  split
  · exact State.modArm_kept (o := Spindle.orders) (.inr (by simp [hready]))
  · exact State.modArm_kept (o := Spindle.orders) (.inr (by simp [hready]))
  · exact Kept.refl s

theorem State.motionFailed_kept {p : Port} (hready : (s.spindle p).state = .ready) : Kept s (s.motionFailed p) := by
  unfold State.motionFailed
  split
  · exact State.enterFaulted_kept _ (by simp [hready]) (by simp [hready])
  · rw [State.seekFailed_eq_armLost hready]
    exact (s.armLost_kept p).trans (State.chargeOwner_kept _ _)
  · exact Kept.refl s

theorem State.motionTimeout_kept {p : Port} (hready : (s.spindle p).state = .ready) : Kept s (s.motionTimeout p) := by
  unfold State.motionTimeout
  split
  · exact Kept.refl s
  · exact (s.clockTo_kept _).trans (State.motionFailed_kept _ (by simpa using hready))

/-! ### The Channel -/

theorem State.release_kept (t : Tag) (noBuffer : Bool) : Kept s (s.release t noBuffer) := by
  unfold State.release
  dsimp only
  split
  · exact s.closeChannel_kept
  · split
    · exact s.closeChannel_kept.trans (State.complete_kept _ _ _ _)
    · refine s.closeChannel_kept.trans (State.modRequest_kept _ _ fun q => ?_)
      unfold Request.regrade
      split <;> exact ⟨rfl, rfl⟩

theorem State.completeRun_kept (t : Tag) : Kept s (s.completeRun t) := by
  unfold State.completeRun
  split
  · exact Kept.refl s
  · exact s.complete_kept _ _ _

theorem State.positionError_kept (e : Engagement) : Kept s (s.positionError e) := by
  unfold State.positionError
  have hlost := s.armLost_kept e.spindle
  dsimp only
  split
  · exact hlost.trans (State.closeChannel_kept _)
  · split
    · exact hlost.trans (State.complete_kept _ _ _ _)
    · exact (hlost.trans (State.modRequest_kept _ _ (by exact fun _ => ⟨rfl, rfl⟩))).trans (State.release_kept _ _ _)

theorem State.carryOut_kept (e : Engagement) (ending : Ending) : Kept s (s.carryOut e ending) := by
  cases ending with
  | runEnd => exact s.completeRun_kept _
  | burstLimit => exact s.release_kept _ _
  | cylinderEnd => exact s.release_kept _ _
  | stagedEmpty => exact s.release_kept _ _
  | positionError => exact s.positionError_kept e
  | searchFailure => exact s.complete_kept _ _ _
  | writeProtected => exact s.complete_kept _ _ _
  | trackEnd =>
    dsimp only [State.carryOut]
    split
    · exact s.closeChannel_kept
    · split
      · exact s.release_kept _ _
      · exact s.modChan_kept _

theorem State.endWith_kept (ending : Ending) : Kept s (s.endWith ending) := by
  unfold State.endWith
  split
  · exact Kept.refl s
  · split
    · exact s.carryOut_kept _ _
    · exact s.modChan_kept _

theorem State.afterSector_kept (retry : Bool) : Kept s (s.afterSector retry) := by
  cases hchan : s.chan with
  | none => simp only [State.afterSector, hchan]; exact Kept.refl s
  | some e =>
    cases hr : s.request e.tag with
    | none => simp only [State.afterSector, hchan, hr]; exact Kept.refl s
    | some r =>
      have hquiet (x : Engagement) : Kept s { s with chan := some x } := .quiet (.same rfl rfl) rfl rfl rfl rfl rfl rfl rfl
      rw [State.afterSector_eq hchan hr]
      split
      · exact s.complete_kept _ _ _
      · split
        · exact hquiet _
        · split
          · exact s.endWith_kept _
          · split
            · exact s.endWith_kept _
            · split
              · exact s.endWith_kept _
              · split
                · exact s.endWith_kept _
                · split
                  · exact s.endWith_kept _
                  · exact hquiet _

theorem State.searchFailed_kept : Kept s s.searchFailed := by
  unfold State.searchFailed
  split
  · exact Kept.refl s
  · split
    · exact s.endWith_kept _
    · exact s.complete_kept _ _ _
    · exact s.complete_kept _ _ _
    · exact Kept.refl s

theorem State.cancelNow_kept (t : Tag) : Kept s (s.cancelNow t) := by
  unfold State.cancelNow
  split
  · exact Kept.refl s
  · split
    · split
      · exact s.complete_kept _ _ _
      · exact s.complete_kept _ _ _
      · exact (s.countSector_kept t).trans (State.complete_kept _ _ _ _)
      · exact Kept.refl s
    · exact Kept.refl s

theorem State.slotWhole_kept (e : Engagement) : Kept s (s.slotWhole e) := by
  unfold State.slotWhole
  split
  · exact .written rfl
  · exact Kept.refl s

theorem State.formatSlotEnd_kept (isIndex : Bool) : Kept s (s.formatSlotEnd isIndex) := by
  unfold State.formatSlotEnd
  split
  · exact Kept.refl s
  · next e _ =>
    have hwhole := s.slotWhole_kept e
    unfold State.slotWhole at hwhole
    have hcounted := hwhole.trans (State.countSector_kept _ e.tag)
    dsimp only
    split
    · exact hwhole.trans (State.closeChannel_kept _)
    · split
      · exact hcounted
      · split
        · exact hcounted.trans (State.complete_kept _ _ _ _)
        · split
          · exact hcounted.trans (State.completeRun_kept _ _)
          · split
            · exact hcounted.trans (State.complete_kept _ _ _ _)
            · exact hcounted.trans (State.modChan_kept _ _)

theorem State.formatSlotWritten_kept : Kept s s.formatSlotWritten := by
  unfold State.formatSlotWritten
  split
  · exact Kept.refl s
  · next e _ =>
    have hwritten : Kept s (s.writeFormatSlot e) := .written rfl
    split
    · dsimp only
      split
      · exact hwritten.trans (State.closeChannel_kept _)
      · split
        · exact (hwritten.trans (State.countSector_kept _ _)).trans (State.complete_kept _ _ _ _)
        · exact hwritten.trans (State.modChan_kept _ _)
    · exact Kept.refl s

/-! Header reads and data fields -/

theorem State.passOver_kept (e : Engagement) : Kept s (s.passOver e) := by
  unfold State.passOver
  split
  · exact s.searchFailed_kept
  · exact Kept.refl s

theorem State.beginData_kept (e : Engagement) (w0 : Word) (slot : Nat) : Kept s (s.beginData e w0 slot) := by
  unfold State.beginData State.beginRead State.beginWrite
  split
  · exact Kept.refl s
  · split
    · split
      · exact s.release_kept _ _
      · exact Kept.trans (.quiet (.same (State.roll_congr (by simp)) (by simp))) (State.modChan_kept _ _)
    · split
      · exact s.endWith_kept _
      · split
        · exact s.endWith_kept _
        · exact (s.modRequest_kept _ (by exact fun _ => ⟨rfl, rfl⟩)).trans (State.modChan_kept _ _)
    · exact s.modChan_kept _
    · exact Kept.refl s

theorem State.searchHeader_kept (e : Engagement) (slot : Nat) (h : Option (Word × Word × Word)) : Kept s (s.searchHeader e slot h) := by
  unfold State.searchHeader
  split
  · exact s.passOver_kept e
  · exact s.endWith_kept _
  · exact s.beginData_kept e _ slot

theorem State.judgePass_kept (e : Engagement) (slot : Nat) (h : Option (Word × Word × Word)) : Kept s (s.judgePass e slot h) := by
  unfold State.judgePass
  split
  · exact s.passOver_kept e
  · exact (s.armLost_kept _).trans (State.complete_kept _ _ _ _)
  · exact s.modChan_kept _

theorem State.passHeader_kept (e : Engagement) (slot : Nat) (h : Option (Word × Word × Word)) : Kept s (s.passHeader e slot h) := by
  unfold State.passHeader
  split
  · exact s.complete_kept _ _ _
  · split
    · exact s.searchFailed_kept
    · exact (s.modChan_kept _).trans (State.judgePass_kept _ _ _ _)

theorem State.headerRead_kept (slot : Nat) (read : HeaderRead) : Kept s (s.headerRead slot read) := by
  unfold State.headerRead
  split
  · exact Kept.refl s
  · split
    · split
      · exact (s.modChan_kept _).trans (State.searchHeader_kept _ _ _ _)
      · exact (s.modChan_kept _).trans (State.passHeader_kept _ _ _ _)
      · exact Kept.refl s
    · exact Kept.refl s

theorem State.sectorRead_kept (e : Engagement) : Kept s (s.sectorRead e) :=
  ((s.modChan_kept _).trans (State.countSector_kept _ _)).trans (State.afterSector_kept _ _)

theorem State.deliverRead_kept (e : Engagement) (data : List Word) (suspect : Bool) : Kept s (s.deliverRead e data suspect) := by
  unfold State.deliverRead
  split
  · exact .quiet ⟨State.roll_sublist_of_eq (State.roll_congr (by simp)),
      by simp [State.deliver, State.streamDones, StreamEntry.holdsBuffer]⟩
  · exact Kept.refl s

theorem State.readEnd_kept (e : Engagement) (r : Request) (w0 : Word) (field : List Word × Option Word) :
    Kept s (s.readEnd e r w0 field) := by
  unfold State.readEnd
  split
  · exact (s.deliverRead_kept e _ _).trans (State.sectorRead_kept _ _)
  · split
    · exact (((s.modChan_kept _).trans (State.returnBuffers_kept _ _)).trans
        (State.modRequest_kept _ _ (by exact fun _ => ⟨rfl, rfl⟩))).trans
        (State.afterSector_kept _ _)
    · split
      · exact ((s.deliverRead_kept e _ _).trans (State.modRequest_kept _ _ (by exact fun _ => ⟨rfl, rfl⟩))).trans
          (State.sectorRead_kept _ _)
      · exact s.complete_kept _ _ _

theorem State.writeEnd_kept (e : Engagement) (r : Request) (w0 : Word) (slot : Nat) (b : Buffer) :
    Kept s (s.writeEnd e r w0 slot b) := by
  have hwritten : Kept s (s.writeSector e w0 slot b) := .written rfl
  unfold State.writeEnd
  dsimp only
  split
  · exact hwritten.trans (State.closeChannel_kept _)
  · split
    · exact (hwritten.trans (State.modChan_kept _ _)).trans (State.afterSector_kept _ _)
    · exact (((hwritten.trans (State.modChan_kept _ _)).trans (State.countSector_kept _ _)).trans (State.returnBuffers_kept _ _)).trans
        (State.afterSector_kept _ _)

theorem State.cleanPass_kept (e : Engagement) (r : Request) : Kept s (s.cleanPass e r) := by
  unfold State.cleanPass
  dsimp only
  split
  · exact s.modChan_kept _
  · exact (s.modChan_kept _).trans (State.carryOut_kept _ _ _)

theorem State.passEnd_kept (e : Engagement) (w0 : Word) (field : List Word × Option Word) : Kept s (s.passEnd e w0 field) := by
  have hcounted (rest : List PendingEntry) : Kept s
      (((s.modChan fun x => { x with pending := rest, phase := .pass none }).returnBuffers 1).countSector e.tag) :=
    ((s.modChan_kept _).trans (State.returnBuffers_kept _ _)).trans (State.countSector_kept _ _)
  unfold State.passEnd State.entryGood
  split
  · exact s.closeChannel_kept
  · split
    · exact Kept.refl s
    · dsimp only
      split
      · split
        · exact hcounted _
        · split
          · exact (hcounted _).trans (State.complete_kept _ _ _ _)
          · split
            · exact (hcounted _).trans (State.modChan_kept _ _)
            · exact (hcounted _).trans (State.cleanPass_kept _ _ _)
      · exact s.complete_kept _ _ _

theorem State.dataFieldEnd_kept (read : FieldRead) : Kept s (s.dataFieldEnd read) := by
  unfold State.dataFieldEnd
  split
  · exact Kept.refl s
  · split
    · exact Kept.refl s
    · split
      · exact s.readEnd_kept _ _ _ _
      · exact s.readEnd_kept _ _ _ _
      · exact s.writeEnd_kept _ _ _ _ _
      · exact s.passEnd_kept _ _ _
      · exact Kept.refl s

end

/-! ### Marks -/

section
variable {s : State} {p : Port}

/-- R44 to R51: a tracker that takes a mark. -/
theorem State.modTracker_kept {f : Tracker → Tracker} (hspinning : (s.spindle p).state.spinning = true)
    (hsector : (f (s.spindle p).tracker).tracked = false →
      (f (s.spindle p).tracker).sector = 0 ∨ f (s.spindle p).tracker = (s.spindle p).tracker)
    (herrors : (f (s.spindle p).tracker).errors ≤ s.params.trackFaultLimit ∨
      (f (s.spindle p).tracker).errors = (s.spindle p).tracker.errors) : Kept s (s.modTracker p f) := by
  refine State.modSpindle_kept rfl ⟨id, id, fun ⟨_, hzero, hlimit⟩ => ⟨fun h => ?_, fun h => ?_, ?_⟩⟩ .inl ⟨id, id, id⟩
  · exact absurd (hspinning.symm.trans h) (by decide)
  · rcases hsector h with hz | heq
    · exact hz
    · simp only [heq] at h ⊢
      exact hzero h
  · rcases herrors with hle | heq
    · exact hle
    · simp only [heq]
      exact hlimit

theorem State.reportThreshold_kept (s : State) (p : Port) : Kept s (s.reportThreshold p) := by
  unfold State.reportThreshold
  split
  · next h => exact State.enterFaulted_kept _ (by simp [h.1]) (by simp [h.1])
  · exact Kept.refl s

theorem State.reportTracked_kept (s : State) (p : Port) : Kept s (s.reportTracked p) := by
  unfold State.reportTracked
  split
  · exact s.evalSpindleHold_kept p
  · exact Kept.refl s

theorem Spindle.takesMarks_iff (r : Spindle) : r.takesMarks = true ↔ r.state.spinning = true ∧ r.lines.spun = true := by
  simp [Spindle.takesMarks]

theorem State.trackSector_kept (s : State) (p : Port) : Kept s (s.trackSector p) := by
  unfold State.trackSector
  dsimp only
  split
  · next htakes =>
    obtain ⟨hmarks, htracked⟩ := Bool.and_eq_true_iff.mp htakes
    obtain ⟨hspinning, -⟩ := (Spindle.takesMarks_iff _).mp hmarks
    split
    · exact State.modTracker_kept hspinning (fun h => absurd (htracked.symm.trans h) (by decide)) (.inr rfl)
    · have hlost : Kept s (s.modTracker p fun t => t.indexLost s.params.trackFaultLimit) :=
        State.modTracker_kept hspinning (fun _ => .inl rfl) (.inl (Nat.min_le_left _ _))
      exact ((hlost.trans (State.post_kept _ _ _)).trans (State.reportTracked_kept _ _)).trans (State.reportThreshold_kept _ _)
  · exact Kept.refl s

/-- R27: a spindle becomes READY, with the restore that makes its arm known. -/
theorem State.enterReady_kept (hup : (s.spindle p).state = .spinningUp) : Kept s (s.enterReady p) := by
  obtain ⟨entered, hentered⟩ : ∃ u, u = (s.modTracker p fun t => t.acquire s.now).enterState p .ready := ⟨_, rfl⟩
  have hready : (entered.spindle p).state = .ready := by
    rw [hentered, State.enterState_spindle_same]
    rfl
  have hparams : entered.params = s.params := by rw [hentered]; simp
  have hnow : entered.now = s.now := by rw [hentered]; simp
  have hrestored : entered.issueRestore p =
      ((s.modSpindle p fun r => { r with tracker := r.tracker.acquire s.now }).enterState p .ready).modSpindle p fun r =>
        { r with
          arm := .restoring (s.now + millisUs s.params.seekTimeout)
          orders := { r.orders with restoreStrobes := r.orders.restoreStrobes + 1 } } := by
    rw [State.issueRestore, if_pos hready, hparams, hnow, hentered]
    rfl
  have hkept : Kept s (entered.issueRestore p) := by
    rw [hrestored]
    refine State.moved_out_kept (by decide) rfl (fun _ => rfl) (by simp [hup, SpindleState.spinning]) (by decide) ?_
      Spindle.enter_idle_isSome fun _ => .in_service (by simp [hup]) (by simp [Spindle.enter]) ⟨rfl, rfl, rfl⟩ fun hf => ?_
    · refine ⟨fun _ => by simp [Spindle.enter], fun ⟨_, hdown, hran⟩ => ⟨by simp [Spindle.enter], by simp [Spindle.enter], fun hi => ?_⟩,
        fun ⟨_, _, hlimit⟩ => ?_⟩
      · exact absurd (hup.symm.trans (hran (Spindle.enter_idle_isSome hi)).1) (by decide)
      · simpa [Spindle.TrackerSound, Spindle.enter, SpindleState.spinning, Tracker.acquire] using hlimit
    · obtain ⟨⟨hrespin, -⟩, hran⟩ := hf
      refine ⟨⟨fun h => absurd (hup.symm.trans (hrespin h)) (by decide), fun _ => .inr (.inr (.inl rfl))⟩, fun hi => ?_⟩
      exact absurd (hup.symm.trans (hran (Spindle.enter_idle_isSome hi)).1) (by decide)
  rw [State.enterReady, ← hentered]
  exact (hkept.trans (State.touchActivity_kept _ _)).trans (State.startIdle_kept _ _)

theorem State.spindleIndex_kept (s : State) (p : Port) : Kept s (s.spindleIndex p) := by
  unfold State.spindleIndex State.trackIndex
  dsimp only
  split
  · next hmarks =>
    obtain ⟨hspinning, -⟩ := (Spindle.takesMarks_iff _).mp hmarks
    have hacquire : Kept s (s.modTracker p fun t => t.acquire s.now) :=
      State.modTracker_kept hspinning (fun h => absurd h (by simp [Tracker.acquire])) (.inr rfl)
    split
    · next hup => exact State.enterReady_kept hup
    · split
      · next htracked =>
        split
        · exact State.modTracker_kept hspinning (fun h => absurd h (by simp [Tracker.clean])) (.inl (Nat.zero_le _))
        · have hshort : Kept s (s.modTracker p fun t => t.shortRevolution s.params.trackFaultLimit s.now) :=
            State.modTracker_kept hspinning (fun _ => .inl rfl) (.inl (Nat.min_le_left _ _))
          exact (hshort.trans (State.post_kept _ _ _)).trans (State.reportThreshold_kept _ _)
      · split
        · exact hacquire.trans (State.reportTracked_kept _ _)
        · exact Kept.refl s
  · exact Kept.refl s

theorem State.countedMark_kept (s : State) (e : Engagement) (isIndex : Bool) : Kept s (s.countedMark e isIndex) := by
  unfold State.countedMark
  dsimp only
  split
  · exact (s.modChan_kept _).trans (State.searchFailed_kept _)
  · exact s.modChan_kept _

theorem State.channelMark_kept (s : State) (p : Port) (isIndex : Bool) : Kept s (s.channelMark p isIndex) := by
  unfold State.channelMark
  split
  · exact Kept.refl s
  · split
    · split
      · exact s.countedMark_kept _ _
      · exact s.countedMark_kept _ _
      · split
        · unfold State.formatIndex
          split
          · exact s.complete_kept _ _ _
          · exact s.modChan_kept _
        · exact s.countedMark_kept _ _
      · exact s.formatSlotEnd_kept _
      · exact Kept.refl s
      · exact Kept.refl s
      · exact Kept.refl s
    · exact Kept.refl s

/-! ### The other events of the ports and the timers -/

theorem State.spunChange_kept (s : State) (p : Port) (level : Bool) : Kept s ((s.setSpun p level).spunChange p level) := by
  rw [State.setSpun_eq]
  have hlines : Kept s (s.setLines p { (s.spindle p).lines with spun := level }) := State.setLines_kept rfl
  obtain ⟨u, hu⟩ : ∃ u, u = s.setLines p { (s.spindle p).lines with spun := level } := ⟨_, rfl⟩
  rw [← hu] at hlines ⊢
  unfold State.spunChange
  split
  · exact hlines
  · split
    · next hready => exact hlines.trans (State.enterFaulted_kept _ (by simp [hready]) (by simp [hready]))
    · next hdown => exact hlines.trans (State.endSpinDown_kept hdown)
    · exact hlines

theorem State.unitFault_kept (s : State) (p : Port) : Kept s (s.unitFault p) := by
  unfold State.unitFault
  split
  · exact Kept.refl s
  · exact Kept.refl s
  · exact Kept.refl s
  · next hconfigured hpresent _ => exact State.enterFaulted_kept _ hconfigured hpresent

theorem State.postConfigured_kept (s : State) (p : Port) (kind : EventSet) : Kept s (s.postConfigured p kind) := by
  unfold State.postConfigured
  split
  · exact s.post_kept p kind
  · exact Kept.refl s

theorem State.spinUpTimeout_kept (s : State) (p : Port) : Kept s (s.spinUpTimeout p) := by
  unfold State.spinUpTimeout
  split
  · next hstate _ => exact (s.clockTo_kept _).trans (State.enterFaulted_kept _ (by simp [hstate]) (by simp [hstate]))
  · exact Kept.refl s

theorem State.spinDownTimeout_kept (s : State) (p : Port) : Kept s (s.spinDownTimeout p) := by
  unfold State.spinDownTimeout
  split
  · next hstate _ => exact (s.clockTo_kept _).trans (State.enterFaulted_kept _ (by simp [hstate]) (by simp [hstate]))
  · exact Kept.refl s

theorem State.idleTimeout_kept (s : State) (p : Port) : Kept s (s.idleTimeout p) := by
  unfold State.idleTimeout
  split
  · next hstate htimer =>
    exact (s.clockTo_kept _).trans (State.enterSpinningDown_kept (.inl (by simpa using hstate)) (.inr (by simp [htimer])))
  · exact Kept.refl s

theorem State.ageTimeout_kept (s : State) (t : Tag) : Kept s (s.ageTimeout t) := by
  unfold State.ageTimeout
  split
  · exact Kept.refl s
  · exact (s.clockTo_kept _).trans (State.modRequest_kept _ _ (by exact fun _ => ⟨rfl, rfl⟩))

theorem State.endTransmission_kept (s : State) : Kept s s.endTransmission := by
  unfold State.endTransmission
  split
  · exact Kept.refl s
  · exact Kept.trans (.quiet (.same (State.roll_congr (by simp)) (by simp))) (State.returnBuffers_kept _ _)

/-- The effect of every event keeps every invariant. -/
theorem EventEffect.kept {s v : State} (h : EventEffect s v) : Kept s v := by
  cases h with
  | frameBegun => exact .quiet (.same (State.roll_congr (by simp)) (by simp))
  | frameReceived => exact .quiet (.same (State.roll_congr (by simp)) (by simp))
  | lengthError => exact .quiet (.same (State.roll_congr (by simp)) (by simp))
  | gapTimeout => exact .quiet (.same (State.roll_congr (by simp)) (by simp))
  | transmissionEnd => exact s.endTransmission_kept
  | presFalling p h => exact State.presFall_kept h
  | presRising p h => exact State.presRise_kept h
  | spunChange p level => exact s.spunChange_kept p level
  | unitFault p => exact s.unitFault_kept p
  | wprChange p level =>
    rw [State.setWpr_eq]
    exact (State.setLines_kept (by rfl)).trans (State.postConfigured_kept _ _ _)
  | attention p => exact s.postConfigured_kept p _
  | sectorMark p => exact (s.trackSector_kept p).trans (State.channelMark_kept _ _ _)
  | indexMark p moment => exact ((s.clockTo_kept _).trans (State.spindleIndex_kept _ _)).trans (State.channelMark_kept _ _ _)
  | formatSlotWritten => exact s.formatSlotWritten_kept
  | headerRead slot read => exact s.headerRead_kept slot read
  | dataFieldEnd read => exact s.dataFieldEnd_kept read
  | motionDone p h => exact s.motionDone_kept h
  | motionFailed p h => exact s.motionFailed_kept h
  | motionTimeout p h => exact s.motionTimeout_kept h
  | spinUpTimeout p => exact s.spinUpTimeout_kept p
  | spinDownTimeout p => exact s.spinDownTimeout_kept p
  | idleTimeout p => exact s.idleTimeout_kept p
  | ageTimeout t => exact s.ageTimeout_kept t

end

end Sys2Proof.Machine
end

section
/-! The messages and the reset line keep every invariant, and so every step does: O54, O56, O57. -/

-- One declaration after another: elaborated in parallel, these files ask for more memory than a check has.
set_option Elab.async false

namespace Sys2Proof.Machine

/-! ### UNITCTL -/

section
variable {s : State} {p : Port}

theorem Spindle.restState_ne (r : Spindle) :
    r.restState ≠ .spinWait ∧ r.restState ≠ .spinningUp ∧ r.restState ≠ .unconfigured ∧ r.restState ≠ .faulted ∧
      r.restState.spinning = false := by
  unfold Spindle.restState
  split <;> decide

/-- R18, R22: at rest a spindle is PARKED with PRES and ABSENT without. -/
theorem Spindle.restState_absent (r : Spindle) : r.restState = .absent ↔ r.lines.pres = false := by
  unfold Spindle.restState
  split <;> simp_all

theorem State.configure_kept {g : Geometry} (hg : g.legal = true)
    (h : (s.spindle p).state = .unconfigured ∨ (s.spindle p).state = .absent ∨ (s.spindle p).state = .parked) :
    Kept s (s.configure p g) := by
  have hconfigure : s.configure p g =
      if (s.spindle p).state = (s.spindle p).restState then s.modSpindle p fun r => { r with geometry := some g }
      else (s.modSpindle p fun r => { r with geometry := some g }).enterState p (s.spindle p).restState := by
    simp only [State.configure, State.spindle_modSpindle_same]
    rfl
  obtain ⟨hwait, hup, hunconfigured, hfaulted, hspinning⟩ := (s.spindle p).restState_ne
  rw [hconfigure]
  split
  · next hsame =>
    refine State.modSpindle_kept rfl ⟨id, id, id⟩ .inl ⟨fun ⟨hcause, _, _⟩ => ⟨hcause, ?_, ?_⟩, id, id⟩
    · simpa [hsame] using hunconfigured
    · rintro _ ⟨⟩
      exact hg
  · refine State.entered_kept hwait rfl (fun hs => absurd (hspinning.symm.trans hs) (by decide)) hup
      (.enter_resting (by rfl) (by rfl) (by rfl) (.inl (by rfl)) hspinning) Spindle.enter_idle_isSome fun _ =>
      ⟨fun ⟨hcause, _, _⟩ => ⟨?_, ?_, ?_⟩, fun ⟨⟨hrespin, hpinned⟩, hran⟩ => ⟨⟨fun hr => ?_, fun hr => ?_⟩, fun hi => ?_⟩,
        fun _ _ => Spindle.restState_absent _⟩
    · have hnone : (s.spindle p).cause.isSome ≠ true :=
        fun hc => by rcases h with h | h | h <;> exact absurd (h.symm.trans (hcause.mp hc)) (by decide)
      simp [Spindle.enter, hfaulted, hnone]
    · simp [Spindle.enter, hunconfigured]
    · rintro _ ⟨⟩
      exact hg
    · rcases h with h | h | h <;> exact absurd (h.symm.trans (hrespin hr)) (by decide)
    · have hout := hpinned hr
      rcases h with h | h | h <;> simp [h] at hout
    · have hready := (hran (Spindle.enter_idle_isSome hi)).1
      rcases h with h | h | h <;> exact absurd (h.symm.trans hready) (by decide)

theorem State.deconfigure_kept
    (h : (s.spindle p).state = .parked ∨ (s.spindle p).state = .absent ∨ (s.spindle p).state = .faulted) :
    Kept s (s.deconfigure p) := by
  obtain ⟨u, hu⟩ : ∃ u, u = s.setActivity (s.activity.filter (· != p)) := ⟨_, rfl⟩
  have hforget : Kept s u := by
    rw [hu]
    exact .still (by simp) (by simp) (fun hn => hn.filter _) (by simp) (by simp) (.same (State.roll_congr (by simp)) (by simp))
      (by simp [State.EventsSound]) (by simp [State.MediaSound])
  have hstate : (u.spindle p).state = (s.spindle p).state := by rw [hu, State.setActivity_spindle]
  have hdeconfigure : s.deconfigure p =
      (u.modSpindle p fun r => { r with geometry := none, cause := none }).enterState p .unconfigured := by rw [hu]; rfl
  rw [← hstate] at h
  rw [hdeconfigure]
  refine hforget.trans (State.entered_kept (by decide) rfl (by simp [SpindleState.spinning]) (by decide)
    (.enter_resting (by rfl) (by rfl) (by rfl) (.inl (by rfl)) rfl) Spindle.enter_idle_isSome fun _ =>
    ⟨fun _ => ⟨by simp [Spindle.enter], by simp [Spindle.enter], fun _ h => nomatch h⟩,
      fun ⟨⟨hrespin, hpinned⟩, hran⟩ => ⟨⟨fun hr => ?_, fun hr => ?_⟩, fun hi => ?_⟩, fun _ hc =>
        absurd hc (by simp [Spindle.configured, Spindle.enter])⟩)
  · rcases h with h | h | h <;> exact absurd (h.symm.trans (hrespin hr)) (by decide)
  · have hout := hpinned hr
    rcases h with h | h | h <;> simp [h] at hout
  · have hready := (hran (Spindle.enter_idle_isSome hi)).1
    rcases h with h | h | h <;> exact absurd (h.symm.trans hready) (by decide)

theorem State.clearFault_kept (h : (s.spindle p).state = .faulted) : Kept s (s.clearFault p) := by
  have hclear : s.clearFault p = (s.modSpindle p fun r => { r with cause := none }).enterState p (s.spindle p).restState := by
    simp only [State.clearFault, State.spindle_modSpindle_same]
    rfl
  obtain ⟨hwait, hup, hunconfigured, hfaulted, hspinning⟩ := (s.spindle p).restState_ne
  rw [hclear]
  refine State.entered_kept hwait rfl (fun hs => absurd (hspinning.symm.trans hs) (by decide)) hup
    (.enter_resting (by rfl) (by rfl) (by rfl) (.inl (by rfl)) hspinning) Spindle.enter_idle_isSome fun _ =>
    ⟨fun ⟨_, hgeometry, hlegal⟩ => ⟨?_, ?_, hlegal⟩, fun ⟨⟨hrespin, hpinned⟩, hran⟩ => ⟨⟨fun hr => ?_, fun hr => ?_⟩, fun hi => ?_⟩,
      fun _ _ => Spindle.restState_absent _⟩
  · simp [Spindle.enter, hfaulted]
  · have hsome : (s.spindle p).geometry.isSome = true := hgeometry.mpr (by simp [h])
    simp [Spindle.enter, hunconfigured, hsome]
  · exact absurd (h.symm.trans (hrespin hr)) (by decide)
  · have hout := hpinned hr
    simp [h] at hout
  · exact absurd (h.symm.trans (hran (Spindle.enter_idle_isSome hi)).1) (by decide)

/-- A change of the flags and the idle timer alone. -/
theorem State.modFlags_kept {f : Spindle → Spindle} {pinned respin : Bool} {idle : Option Nat}
    (hf : f (s.spindle p) = { s.spindle p with pinned := pinned, respin := respin, idleTimer := idle })
    (hidle : idle = none ∨
      (idle = (s.spindle p).idleTimer ∧ (pinned = (s.spindle p).pinned ∨ pinned = false ∨ (s.spindle p).state ≠ .ready)))
    (hflags : (s.spindle p).FlagsMatchState →
      (respin = true → (s.spindle p).state = .spinningDown) ∧ (pinned = true → (s.spindle p).state = .spinWait ∨
        (s.spindle p).state = .spinningUp ∨ (s.spindle p).state = .ready ∨ ((s.spindle p).state = .spinningDown ∧ respin = true))) :
    Kept s (s.modSpindle p f) := by
  have hran (h : (s.spindle p).idleTimer.isSome = true → (s.spindle p).state = .ready ∧ (s.spindle p).pinned = false)
      (hi : idle.isSome = true) : (s.spindle p).state = .ready ∧ pinned = false := by
    rcases hidle with rfl | ⟨rfl, hpinned⟩
    · cases hi
    · obtain ⟨hready, hunpinned⟩ := h hi
      refine ⟨hready, ?_⟩
      rcases hpinned with h | h | h
      · exact h.trans hunpinned
      · exact h
      · exact absurd hready h
  refine State.modSpindle_kept (by rw [hf]) ?_ ?_ ?_ <;> rw [hf]
  · exact ⟨id, fun ht => ⟨ht.1, ht.2.1, hran ht.2.2⟩, id⟩
  · intro hi
    rcases hidle with rfl | ⟨rfl, -⟩
    · cases hi
    · exact .inl hi
  · exact ⟨id, fun h => ⟨hflags h.1, hran h.2⟩, id⟩

theorem State.unpin_kept : Kept s (s.unpin p) :=
  State.modFlags_kept rfl (.inr ⟨rfl, .inr (.inl rfl)⟩) fun h => ⟨h.1, by simp⟩

/-- R20: SPIN_UP, by the state it finds. -/
theorem judgeSpinUp_kept {v : State} (h : judgeSpinUp p s = accept v) : Kept s v := by
  have accepted {u : State} (hu : judgeSpinUp p s = accept u) : v = u := congrArg Judged.state (h.symm.trans hu)
  cases hstate : (s.spindle p).state with
  | unconfigured => simp [judgeSpinUp, hstate, refuse, accept] at h
  | absent => simp [judgeSpinUp, hstate, refuse, accept] at h
  | faulted => simp [judgeSpinUp, hstate, refuse, accept] at h
  | parked =>
    rw [accepted (u := (s.pin p).joinWait p) (by simp only [judgeSpinUp, hstate])]
    exact State.joinWait_kept hstate true
  | spinWait =>
    rw [accepted (judgeSpinUp_flags (.inl hstate))]
    exact State.modFlags_kept rfl (.inr (by simp [hstate])) (by simp [hstate, Spindle.FlagsMatchState])
  | spinningUp =>
    rw [accepted (judgeSpinUp_flags (.inr (.inl hstate)))]
    exact State.modFlags_kept rfl (.inr (by simp [hstate])) (by simp [hstate, Spindle.FlagsMatchState])
  | ready =>
    rw [accepted (judgeSpinUp_flags (.inr (.inr (.inl hstate))))]
    exact State.modFlags_kept rfl (.inl (by simp [hstate])) (by simp [hstate, Spindle.FlagsMatchState])
  | spinningDown =>
    rw [accepted (judgeSpinUp_flags (.inr (.inr (.inr hstate))))]
    exact State.modFlags_kept rfl (.inr (by simp [hstate])) (by simp [hstate])

/-- R21: SPIN_DOWN, by the state it finds. -/
theorem judgeSpinDown_kept {v : State} (h : judgeSpinDown p s = accept v) : Kept s v := by
  have hunpinned : Kept s (s.unpin p) := State.unpin_kept
  obtain ⟨-, hsame, -⟩ := s.unpin_changes p
  have hrecord : ((s.unpin p).spindle p).state = (s.spindle p).state ∧ ((s.unpin p).spindle p).pinned = false := by simp [hsame]
  obtain ⟨hunpinState, hunpinFlag⟩ := hrecord
  have accepted {u : State} (hu : judgeSpinDown p s = accept u) : v = u := congrArg Judged.state (h.symm.trans hu)
  by_cases hidle : s.requestCount p = 0
  · have hjudge : judgeSpinDown p s = match (s.spindle p).state with
        | .unconfigured => refuse .wrongState s
        | .absent => refuse .wrongState s
        | .faulted => refuse .wrongState s
        | .parked => accept (s.unpin p)
        | .spinWait => accept ((s.unpin p).enterState p .parked)
        | .spinningUp => accept ((s.unpin p).enterSpinningDown p)
        | .ready => accept ((s.unpin p).enterSpinningDown p)
        | .spinningDown => accept ((s.unpin p).modSpindle p fun r => { r with respin := false }) := by
      unfold judgeSpinDown
      exact if_neg (Classical.not_not.mpr hidle)
    cases hstate : (s.spindle p).state <;> rw [hstate] at hjudge
    case parked => rw [accepted hjudge]; exact hunpinned
    case spinWait => rw [accepted hjudge]; exact hunpinned.trans (State.park_kept (by rw [hunpinState, hstate]) hunpinFlag)
    case spinningUp =>
      rw [accepted hjudge]
      exact hunpinned.trans (State.enterSpinningDown_kept (.inr (by rw [hunpinState, hstate])) (.inl hunpinFlag))
    case ready =>
      rw [accepted hjudge]
      exact hunpinned.trans (State.enterSpinningDown_kept (.inl (by rw [hunpinState, hstate])) (.inl hunpinFlag))
    case spinningDown =>
      rw [accepted hjudge]
      exact hunpinned.trans (State.modFlags_kept rfl (.inr ⟨rfl, .inl rfl⟩) fun _ => ⟨by simp, by simp [hunpinFlag]⟩)
    all_goals
      rw [hjudge] at h
      simp [refuse, accept] at h
  · rw [judgeSpinDown, if_pos hidle] at h
    simp [refuse, accept] at h

/-! ### SETP -/

/-- R51: of the spindles' records a SETP changes the error counts, and those for TRACK_FAULT_LIMIT alone. -/
theorem State.applyParam_spindle (s : State) (id : ParamId) (v : Nat) (q : Port) :
    (s.applyParam id v).spindle q = { s.spindle q with tracker := { (s.spindle q).tracker with
      errors := if id = .trackFaultLimit then min (s.spindle q).tracker.errors v else (s.spindle q).tracker.errors } } := by
  by_cases hid : id = .trackFaultLimit
  · subst hid
    simp [State.applyTrackFaultLimit_spindle]
  · cases id <;> simp [State.applyParam] at hid ⊢

/-- R42, R51, R178: a parameter stored, within the counts, the error counts lowered with it. -/
theorem State.applyParam_kept {id : ParamId} {v : Nat} (hfree : limitInUse s id v = false) : Kept s (s.applyParam id v) := by
  obtain ⟨t, ht⟩ : ∃ t, t = s.applyParam id v := ⟨_, rfl⟩
  have hparams : t.params = s.params.put v id := by rw [ht, State.applyParam_params]
  have hspindle (q : Port) := s.applyParam_spindle id v q
  rw [← ht] at hspindle
  have hroll : t.roll = s.roll := by
    rw [ht]
    by_cases hid : id = .ageLimit
    · subst hid
      refine State.roll_map (f := fun r => r.retime s.now v) rfl fun r => ?_
      unfold Request.retime
      repeat' split
      all_goals exact ⟨rfl, rfl⟩
    · refine State.roll_congr ?_
      cases id <;> simp [State.applyParam] at hid ⊢
  rw [← ht]
  have hframe : t.waitList = s.waitList ∧ t.activity = s.activity ∧ t.inReset = s.inReset ∧ t.events = s.events ∧ t.media = s.media ∧
      t.stream = s.stream := by rw [ht]; simp
  obtain ⟨hwaitList, hactivity, hreset, hevents, hmedia, hstream⟩ := hframe
  have hshrinks : Shrinks s t := .same hroll hstream
  have hwait : t.WaitListExact ↔ s.WaitListExact := by simp [State.WaitListExact, hwaitList, hspindle]
  refine ⟨⟨fun h => ?_, hwait.mpr, fun h => ⟨hwait.mpr h.1, fun q => ?_⟩, fun h => ⟨hwait.mpr h.1, fun q => ?_⟩,
    fun h => ⟨hwait.mpr h.1, fun hrun q => ?_⟩, fun h q => ?_, fun h q => ?_, fun h q => ?_, ?_, ?_, ?_⟩, hshrinks⟩
  · have hcounts : t.spinningCount = s.spinningCount ∧ t.risingCount = s.risingCount := by
      simp [State.spinningCount, State.risingCount, hspindle]
    obtain ⟨hspinning, hrising⟩ := h
    have hnot : ¬ limitInUse s id v = true := by simp [hfree]
    simp only [limitInUse_iff, not_or, not_and, Nat.not_lt] at hnot
    unfold State.BudgetKept
    rw [hcounts.1, hcounts.2, hparams]
    cases id <;> simp_all [Params.put]
  · simpa [Spindle.FieldsMatchState, hspindle] using h.2 q
  · simpa [Spindle.FlagsMatchState, hspindle] using h.2 q
  · simpa [Spindle.configured, hspindle] using h.2 (hreset ▸ hrun) q
  · simpa [hspindle] using h q
  · have hq := h q
    simp only [hspindle]
    exact ⟨hq.1, hq.2.1, fun hi => ⟨(hq.2.2 hi).1, (hq.2.2 hi).2.1, hshrinks.count_zero (hq.2.2 hi).2.2⟩⟩
  · obtain ⟨hcleared, hsector, herrors⟩ := h q
    simp only [hspindle, hparams]
    refine ⟨fun hs => ?_, hsector, ?_⟩
    · rw [hcleared hs]
      simp [Tracker.cleared]
    · by_cases hid : id = .trackFaultLimit
      · subst hid
        exact Nat.min_le_right ..
      · rw [if_neg hid]
        cases id <;> simp [Params.put] at hid ⊢ <;> exact herrors
  · simp [State.ActivityOnce, hactivity]
  · simp [State.EventsSound, hevents]
  · simp [State.MediaSound, hmedia]

/-! ### SUBMIT, WDATA, CANCEL -/

/-- R23: a spindle takes a demand. -/
theorem State.registerDemand_kept : Kept s (s.registerDemand p) := by
  unfold State.registerDemand
  split
  · next h => exact State.joinWait_plain_kept h
  · next h => exact State.modFlags_kept rfl (.inl rfl) fun hf => ⟨hf.1, by simp [h]⟩
  · next h => exact State.modFlags_kept rfl (.inr ⟨rfl, .inl rfl⟩) fun _ => ⟨fun _ => h, by simp [h]⟩
  · exact Kept.refl s

/-- R23: what a demand does to the spindles does not depend on the requests. -/
theorem State.registerDemand_setTable (table : List Request) :
    ∃ f : Request → Request, (∀ r, (f r).tag = r.tag ∧ (f r).spindle = r.spindle) ∧
      (s.setTable table).registerDemand p = { s.registerDemand p with table := table.map f } := by
  have hspindle : (s.setTable table).spindle p = s.spindle p := State.setTable_spindle s table p
  unfold State.registerDemand
  rw [hspindle]
  split
  · obtain ⟨v, hv⟩ : ∃ v, v = s.joinWait p := ⟨_, rfl⟩
    have hspindles : ((s.setTable table).joinWait p).spindles = v.spindles := by
      rw [hv]
      refine State.spindles_ext fun q => ?_
      by_cases hq : q = p
      · rw [hq, State.joinWait_spindle_same, State.joinWait_spindle_same, hspindle]
      · rw [State.joinWait_spindle_of_ne _ hq, State.joinWait_spindle_of_ne _ hq, State.setTable_spindle]
    have hframe := s.joinWait_eq p
    rw [← hv] at hframe
    refine ⟨Request.spindleEvaluated p true, fun r => ?_, ?_⟩
    · unfold Request.spindleEvaluated
      split <;> simp
    · rw [State.joinWait_eq, hspindles, ← hv, hframe]
      rfl
  · exact ⟨fun r => r, fun _ => ⟨rfl, rfl⟩, by rw [List.map_id']; rfl⟩
  · exact ⟨fun r => r, fun _ => ⟨rfl, rfl⟩, by rw [List.map_id']; rfl⟩
  · exact ⟨fun r => r, fun _ => ⟨rfl, rfl⟩, by rw [List.map_id']; rfl⟩

/-- R23, R33: a READY spindle with a demand has no idle timer. -/
theorem State.registerDemand_idle (h : ((s.registerDemand p).spindle p).state = .ready) :
    ((s.registerDemand p).spindle p).idleTimer = none := by
  unfold State.registerDemand at h ⊢
  split at h
  · rw [State.joinWait_spindle_same] at h
    cases h
  · simp
  · next hdown => simp [hdown] at h
  · next hready _ => exact absurd h hready

theorem admittedRequest_names (m : SubmitRequest) : (admittedRequest s m).tag = m.tag ∧ (admittedRequest s m).spindle = m.spindle := by
  rw [admittedRequest_eq]
  exact ⟨Request.withHolds_tag _ _, Request.withHolds_spindle _ _⟩

/-- R81: an admission. -/
theorem State.admitRequest_recordsKept (m : SubmitRequest) : RecordsKept s (s.admitRequest m) := by
  obtain ⟨f, hf, hadmit⟩ := State.registerDemand_setTable (s := s) (p := m.spindle) (s.table ++ [admittedRequest s m])
  obtain ⟨u, hu⟩ : ∃ u, u = s.registerDemand m.spindle := ⟨_, rfl⟩
  have hdemand : Kept s u := hu ▸ State.registerDemand_kept
  have hidle := State.registerDemand_idle (s := s) (p := m.spindle)
  rw [← hu] at hadmit hidle
  have hroll : u.roll = s.roll := by
    obtain ⟨g, hg, hself⟩ := State.registerDemand_setTable (s := s) (p := m.spindle) s.table
    exact hu ▸ State.roll_map (f := g) (congrArg State.table hself) hg
  refine hdemand.toRecordsKept.trans ?_
  rw [State.admitRequest, hadmit]
  refine .still rfl rfl id rfl rfl (fun q hready hran hzero => ?_) id id
  have hother : m.spindle ≠ q := by
    rintro rfl
    rw [hidle hready] at hran
    cases hran
  rw [State.requestCount_roll, hroll, ← State.requestCount_roll, State.requestCount_eq_count] at hzero
  rw [State.requestCount_eq_count, List.map_map]
  have hmap : (fun r : Request => r.spindle) ∘ f = fun r => r.spindle := funext fun r => (hf r).2
  rw [hmap, List.map_append, List.count_append, hzero]
  simp [admittedRequest_names, hother]

theorem State.stage_kept (t : Tag) (index : Nat) (payload : List Byte) : Kept s (s.stage t index payload) := by
  rw [State.stage_eq]
  refine .quiet (.same (State.roll_map rfl fun q => ?_) rfl) rfl rfl rfl rfl rfl rfl rfl
  split <;> simp

theorem State.cancel_kept (r : Request) : Kept s (s.cancel r) := by
  unfold State.cancel
  split
  · exact (s.modRequest_kept _ (by exact fun _ => ⟨rfl, rfl⟩)).trans (State.cancelNow_kept _ _)
  · exact s.complete_kept _ _ _

/-- The effect of every message keeps every invariant, but that an accepted SUBMIT adds a request. -/
theorem MessageEffect.kept_or_admitted {v : State} (h : MessageEffect s v) :
    Kept s v ∨ ∃ q : SubmitRequest, submitRefusal s q = Option.none ∧ v = s.admitRequest q := by
  cases h with
  | none => exact .inl (Kept.refl s)
  | submit m q _ hfree => exact .inr ⟨q, hfree, rfl⟩
  | wdata t r index payload => exact .inl (State.stage_kept t index payload)
  | cancel t r => exact .inl (State.cancel_kept r)
  | configure p g hg hidle h => exact .inl (State.configure_kept hg h)
  | deconfigure p hidle h => exact .inl (State.deconfigure_kept h)
  | spinUp p v h => exact .inl (judgeSpinUp_kept h)
  | spinDown p v h => exact .inl (judgeSpinDown_kept h)
  | clearFault p h => exact .inl (State.clearFault_kept h)
  | setp id v hrange hfree => exact .inl (State.applyParam_kept hfree)

theorem MessageEffect.recordsKept {v : State} (h : MessageEffect s v) : RecordsKept s v := by
  rcases h.kept_or_admitted with hkept | ⟨q, -, rfl⟩
  · exact hkept.toRecordsKept
  · exact State.admitRequest_recordsKept q

end

/-! ### The reset line -/

/-- In reset the levels on the lines move. -/
theorem RecordsKept.in_reset {s t : State} (hspindle : ∀ q, ∃ l, t.spindle q = { s.spindle q with lines := l })
    (hwait : t.waitList = s.waitList) (hactivity : t.activity = s.activity) (hparams : t.params = s.params) (htable : t.table = s.table)
    (hevents : t.events = s.events) (hmedia : t.media = s.media) (hreset : t.inReset = true) : RecordsKept s t := by
  obtain ⟨l, hl⟩ := Classical.axiomOfChoice hspindle
  have hlist : t.WaitListExact ↔ s.WaitListExact := by simp [State.WaitListExact, hwait, hl]
  have hrun : ¬ t.inReset = false := by simp [hreset]
  refine ⟨?_, hlist.mpr, ?_, ?_, fun h => ⟨hlist.mpr h.1, fun hr => absurd hr hrun⟩, ?_, ?_, ?_, ?_, ?_, ?_⟩
  · simp [State.BudgetKept, State.spinningCount, State.risingCount, hl, hparams]
  · simp [State.SpindlesConsistent, hlist, hl, Spindle.FieldsMatchState]
  · simp [State.FlagsConsistent, hlist, hl, Spindle.FlagsMatchState]
  · simp [State.ArmExact, hl]
  · simp [State.TimersSound, hl, State.requestCount_congr htable]
  · simp [State.TrackersSound, hl, hparams]
  · simp [State.ActivityOnce, hactivity]
  · simp [State.EventsSound, hevents]
  · simp [State.MediaSound, hmedia]

/-- Section 9.10: what hardware reset leaves is consistent, and of the media a write cut short. -/
theorem State.hardwareReset_recordsKept (s : State) : RecordsKept s s.hardwareReset := by
  have hspindle := s.hardwareReset_spindle
  have hcounts := State.counts_of_unconfigured fun p => congrArg Spindle.state (hspindle p)
  have hwait : s.hardwareReset.WaitListExact :=
    ⟨List.nodup_nil, fun p => by simp [hspindle, show s.hardwareReset.waitList = [] from rfl]⟩
  refine ⟨fun _ => by simp [State.BudgetKept, hcounts], fun _ => hwait, fun _ => ⟨hwait, fun p => ?_⟩, fun _ => ⟨hwait, fun p => ?_⟩,
    fun _ => ⟨hwait, fun _ p => ?_⟩, fun _ p => ?_, fun _ p => ?_, fun _ p => ?_, fun _ => List.nodup_nil,
    fun _ => .nil rfl, fun h => s.tearSector_kept.media h⟩
  all_goals simp [hspindle, Spindle.FieldsMatchState, Spindle.FlagsMatchState, Spindle.configured]

/-! ### Steps -/

/-- A step: a microsecond of the time base, or the answer to the command at the front of the queue. -/
theorem step_answer {s t : State} (h : step s = .next t) :
    t = s.tick ∨ ∃ c rest, s.pending = c :: rest ∧ Answer c { s with pending := rest } t := by
  unfold step at h
  split at h
  · exact .inl (Host.Outcome.next.inj h).symm
  · next c rest hpending => exact .inr ⟨c, rest, hpending, exec_answer h⟩

theorem State.popInbound_kept (s : State) : Kept s s.popInbound := .quiet (.same (State.roll_congr (by simp)) (by simp))

theorem State.takeRestart_kept (s : State) (seq : Byte) : Kept s (s.takeRestart seq) := by
  have hbegin : Kept s (s.beginRestart seq) := .quiet (.same (State.roll_congr (by simp)) (by simp))
  unfold State.takeRestart State.stopNow
  split
  · exact hbegin
  · split
    · exact hbegin.trans (State.closeChannel_kept _)
    · exact hbegin

/-- Every answer keeps the invariants of the spindles, the events and the media. -/
theorem Answer.recordsKept {c : Instr} {s t : State} (h : Answer c s t) : RecordsKept s t := by
  cases h with
  | stands => exact RecordsKept.refl s
  | event v hrun h => exact (h.kept.trans (settle_kept _ _)).toRecordsKept
  | message v kind seq code further hcan h =>
    exact ((s.popInbound_kept.toRecordsKept.trans h.recordsKept).trans
      ((finish_kept _ _).trans ((State.pushReply_kept _ _ _ _ _).trans (serve_kept _ _))).toRecordsKept)
  | restart seq hcan => exact (s.popInbound_kept.trans ((State.takeRestart_kept _ seq).trans (settle_kept _ _))).toRecordsKept
  | level p f hreset =>
    obtain ⟨hframe, hsame, hother⟩ := s.modSpindle_changes p fun r => { r with lines := f r.lines }
    refine .in_reset (fun q => ?_) (by simp) (by simp) (by simp) (by simp) (by simp) (by simp) (by simpa using hreset)
    by_cases hq : q = p
    · exact ⟨f (s.spindle p).lines, by rw [hq]; exact hsame⟩
    · exact ⟨(s.spindle q).lines, hother q hq⟩
  | assertReset => exact .in_reset (fun q => ⟨(s.spindle q).lines, rfl⟩) rfl rfl rfl rfl rfl rfl rfl
  | hardwareReset => exact s.hardwareReset_recordsKept

theorem step_recordsKept {s t : State} (h : step s = .next t) : RecordsKept s t := by
  rcases step_answer h with rfl | ⟨c, rest, -, hanswer⟩
  · exact (Kept.quiet (.same (State.roll_congr (by simp)) (by simp)) : Kept s s.tick).toRecordsKept
  · have hfront : Kept s { s with pending := rest } := .quiet (.same rfl rfl) rfl rfl rfl rfl rfl rfl rfl
    exact hfront.toRecordsKept.trans hanswer.recordsKept

/-- Settles O54: `RecordsKept.budget` of every step. -/
theorem spinBudgetKept : Obligations.SpinBudgetKept := by
  unfold Obligations.SpinBudgetKept
  exact fun _ _ h hstep => (step_recordsKept hstep).budget h

/-- Settles O56: `RecordsKept` of every step. -/
theorem spindlesStayConsistent : Obligations.SpindlesStayConsistent := by
  unfold Obligations.SpindlesStayConsistent
  intro s t hstep
  have hkept := step_recordsKept hstep
  exact ⟨hkept.waitList, hkept.consistent, hkept.flags, hkept.presence⟩

/-- Settles O57: `RecordsKept` of every step. -/
theorem armsTimersTrackersStaySound : Obligations.ArmsTimersTrackersStaySound := by
  unfold Obligations.ArmsTimersTrackersStaySound
  intro s t hstep
  have hkept := step_recordsKept hstep
  exact ⟨hkept.arm, hkept.timers, hkept.trackers, hkept.activity⟩

end Sys2Proof.Machine
end

section
/-! The queues, the RESTART in progress and the parameters (R168 to R170, R178 to R182, R191), event by event: O60. -/

-- One declaration after another: elaborated in parallel, these files ask for more memory than a check has.
set_option Elab.async false

namespace Sys2Proof.Machine

section
variable {s v : State}

/-! ### What the effects of events leave alone -/

theorem EventEffect.params (h : EventEffect s v) : v.params = s.params := by cases h <;> simp

theorem EventEffect.replies (h : EventEffect s v) : v.replies = s.replies := by cases h <;> simp

theorem EventEffect.restart (h : EventEffect s v) : v.restart = s.restart := by cases h <;> simp

theorem EventEffect.choiceHold (h : EventEffect s v) : v.choiceHold = s.choiceHold := by cases h <;> simp

theorem EventEffect.stopRequest (h : EventEffect s v) : v.stopRequest = s.stopRequest := by cases h <;> simp

/-! ### The receive side -/

theorem countDiscard_le (n : Nat) : countDiscard n ≤ 65535 := Nat.min_le_left _ _

theorem State.closeFrame_notice (h : s.NoticeSound) (room : Bool) (f : Frame) (check : Half) :
    (s.closeFrame room f check).NoticeSound := by
  obtain ⟨hcheck, hlength, hgap, hoverrun⟩ := h
  unfold State.closeFrame
  split
  · exact ⟨hcheck, hlength, hgap, countDiscard_le _⟩
  · split
    · exact ⟨hcheck, hlength, hgap, hoverrun⟩
    · exact ⟨countDiscard_le _, hlength, hgap, hoverrun⟩

/-- R167, R191: the counts of the discards are held at 65535. -/
theorem EventEffect.notice (h : EventEffect s v) (hs : s.NoticeSound) : v.NoticeSound := by
  have ⟨hcheck, hlength, hgap, hoverrun⟩ := hs
  cases h with
  | frameReceived kind seq body check =>
    unfold State.endFrame
    repeat' split
    · exact hs
    · exact hs
    · exact State.closeFrame_notice hs _ _ _
    · exact hs
  | lengthError length =>
    unfold State.breakLength
    repeat' split
    · exact hs
    · exact ⟨hcheck, countDiscard_le _, hgap, hoverrun⟩
    · exact hs
  | gapTimeout =>
    unfold State.breakGap
    split
    · exact hs
    · exact ⟨hcheck, hlength, countDiscard_le _, hoverrun⟩
  | _ => simpa [State.NoticeSound] using hs

/-- R167, R168: with the receive side as it stood, a later moment keeps its bounds. -/
theorem State.InboundBounded.later (h : s.InboundBounded) (hinbound : v.inbound = s.inbound) (hparser : v.parser = s.parser)
    (hnow : s.now ≤ v.now) : v.InboundBounded := by
  obtain ⟨hroom, hbegan, hmoment⟩ := h
  unfold State.InboundBounded
  rw [hinbound, hparser]
  exact ⟨hroom, hbegan, fun room begun hp => Nat.le_trans (hmoment room begun hp) hnow⟩

/-- R167: with the parser in HUNT the receive side is within its bounds when the inbound queue is. -/
theorem State.InboundBounded.hunting (hparser : s.parser = .hunt) (hroom : s.inbound.length ≤ Config.inboundRoom) : s.InboundBounded :=
  ⟨hroom, by simp [hparser], by simp [hparser]⟩

/-- R168: a frame joins the inbound queue when it began with room. -/
theorem State.closeFrame_inbound {room : Bool} {begun : Nat} (h : s.InboundBounded) (hparser : s.parser = .frame room begun) (f : Frame)
    (check : Half) : (s.closeFrame room f check).InboundBounded := by
  obtain ⟨hroom, hbegan, -⟩ := h
  unfold State.closeFrame
  split
  · exact .hunting rfl hroom
  · next hb =>
    split
    · refine .hunting rfl ?_
      have htrue : room = true := by simpa using hb
      have hfree := hbegan begun (htrue ▸ hparser)
      simpa [State.pushInbound, State.setParser] using Nat.succ_le_of_lt hfree
    · exact .hunting rfl hroom

/-! An expiry moves the clock to its deadline, and never back. -/

theorem State.now_le_motionTimeout (p : Port) : s.now ≤ (s.motionTimeout p).now := by
  unfold State.motionTimeout
  split <;> simp [Nat.le_max_left]

theorem State.now_le_spinUpTimeout (p : Port) : s.now ≤ (s.spinUpTimeout p).now := by
  unfold State.spinUpTimeout
  split <;> simp [Nat.le_max_left]

theorem State.now_le_spinDownTimeout (p : Port) : s.now ≤ (s.spinDownTimeout p).now := by
  unfold State.spinDownTimeout
  split <;> simp [Nat.le_max_left]

theorem State.now_le_idleTimeout (p : Port) : s.now ≤ (s.idleTimeout p).now := by
  unfold State.idleTimeout
  split <;> simp [Nat.le_max_left]

theorem State.now_le_ageTimeout (t : Tag) : s.now ≤ (s.ageTimeout t).now := by
  unfold State.ageTimeout
  split <;> simp [Nat.le_max_left]

/-- R168: the effect of an event keeps the receive side within its bounds. -/
theorem EventEffect.inbound (h : EventEffect s v) (hs : s.InboundBounded) : v.InboundBounded := by
  have hroom := hs.1
  cases h with
  | frameBegun =>
    unfold State.beginFrame
    split
    · refine ⟨hroom, fun begun hp => ?_, fun room begun hp => ?_⟩
      · exact of_decide_eq_true (Parser.frame.inj hp).1
      · exact ((Parser.frame.inj hp).2 ▸ Nat.le_refl s.now)
    · exact hs
  | frameReceived kind seq body check =>
    unfold State.endFrame
    split
    · exact hs
    · next hparser =>
      repeat' split
      · exact hs
      · exact State.closeFrame_inbound hs hparser _ _
      · exact hs
  | lengthError length =>
    unfold State.breakLength
    repeat' split
    · exact hs
    · exact .hunting rfl hroom
    · exact hs
  | gapTimeout =>
    unfold State.breakGap
    split
    · exact hs
    · exact .hunting rfl hroom
  | motionTimeout p _ => exact hs.later (by simp) (by simp) (s.now_le_motionTimeout p)
  | spinUpTimeout p => exact hs.later (by simp) (by simp) (s.now_le_spinUpTimeout p)
  | spinDownTimeout p => exact hs.later (by simp) (by simp) (s.now_le_spinDownTimeout p)
  | idleTimeout p => exact hs.later (by simp) (by simp) (s.now_le_idleTimeout p)
  | ageTimeout t => exact hs.later (by simp) (by simp) (s.now_le_ageTimeout t)
  | _ => exact hs.later (by simp) (by simp) (by simp [Nat.le_max_left])

/-! ### The end of an event -/

/-- R181, R182: when the Channel has stopped for the RESTART that waits, the end of the event ends it. -/
theorem finish_stopped {b a : State} (h : stopDone b a = true) :
    (finish b a).restart = none ∧ (finish b a).choiceHold = false ∧ (finish b a).stopRequest = false ∧
      (finish b a).notice = .zero ∧ ∃ r, (finish b a).replies = a.replies ++ [r] := by
  obtain ⟨c, hc⟩ : ∃ c, c = a.clearingStep (spindlesCleared b a) := ⟨_, rfl⟩
  have hframe := (a.clearingStep_eq (spindlesCleared b a)).1
  have hcleared : c.restart = none ∧ c.choiceHold = false ∧ c.stopRequest = false ∧ c.notice = .zero ∧
      ∃ r, c.replies = a.replies ++ [r] := by
    rw [hc, hframe]
    exact ⟨rfl, rfl, rfl, rfl, _, rfl⟩
  rw [finish_cleared h, ← hc]
  split
  · simpa using hcleared
  · exact hcleared

theorem stopDone_stopRequest {b a : State} (h : stopDone b a = true) : a.stopRequest = true := by
  simp only [stopDone, Bool.and_eq_true] at h
  exact h.1.1

/-- R107: with the choice hold set the end of an event grants the channel to none. -/
theorem finish_chan {b a : State} (hstop : stopDone b a = false) (hhold : a.choiceHold = true) : (finish b a).chan = a.chan := by
  unfold finish
  rw [hstop, if_neg Bool.false_ne_true]
  obtain ⟨u, hu⟩ : ∃ u, u = if budgetDue b a then a.evalBudget else a := ⟨_, rfl⟩
  have hbudget : u.chan = a.chan ∧ u.choiceHold = true := by
    rw [hu]
    split <;> simp [hhold]
  dsimp only
  rw [← hu, State.reevaluate, if_pos hbudget.2, ite_self, hbudget.1]

/-- R149, R181: the end of an event keeps the RESTART in progress and its holds. -/
theorem finish_restartSound {b a : State} (hchoice : a.choiceHold = a.restart.isSome) (hstop : a.stopRequest = a.restart.isSome)
    (hengaged : b.stopRequest = true → b.chan.isSome = true) : (finish b a).RestartSound := by
  cases hdone : stopDone b a with
  | true =>
    obtain ⟨hrestart, hhold, hrequest, -, -⟩ := finish_stopped hdone
    simp [State.RestartSound, hrestart, hhold, hrequest]
  | false =>
    obtain ⟨-, -, -, hrestart, hhold, hrequest, -, -⟩ := finish_frame_running b a hdone
    refine ⟨by rw [hhold, hrestart, hchoice], by rw [hrequest, hrestart, hstop], fun h => ?_⟩
    rw [hrestart] at h
    rw [finish_chan hdone (hchoice.trans h)]
    have hset : a.stopRequest = true := hstop.trans h
    cases hchan : a.chan with
    | some e => rfl
    | none =>
      cases hbefore : b.stopRequest with
      | false => simp [stopDone, hset, hchan, hbefore] at hdone
      | true => simp [stopDone, hset, hchan, hbefore, Option.isSome_iff_ne_none.mp (hengaged hbefore)] at hdone

/-- R170, R182: the end of an event keeps the reply queue within its bounds. -/
theorem finish_repliesBounded {b a : State} (h : a.RepliesBounded) : (finish b a).RepliesBounded := by
  obtain ⟨hroom, hkept, hstop⟩ := h
  cases hdone : stopDone b a with
  | true =>
    obtain ⟨hrestart, -, hrequest, -, r, hreplies⟩ := finish_stopped hdone
    have hbound := hkept (hstop (stopDone_stopRequest hdone))
    exact ⟨by simpa [hreplies] using Nat.succ_le_of_lt hbound, by simp [hrestart], by simp [hrequest]⟩
  | false =>
    obtain ⟨hreplies, -, -, hrestart, -, hrequest, -, -⟩ := finish_frame_running b a hdone
    exact ⟨hreplies ▸ hroom, by rwa [hreplies, hrestart], by rwa [hrequest, hrestart]⟩

theorem finish_noticeSound {b a : State} (h : a.NoticeSound) : (finish b a).NoticeSound := by
  unfold State.NoticeSound
  cases hdone : stopDone b a with
  | true =>
    obtain ⟨-, -, -, hnotice, -⟩ := finish_stopped hdone
    simp [hnotice, Notice.zero]
  | false =>
    obtain ⟨-, hnotice, -⟩ := finish_frame_running b a hdone
    rwa [hnotice]

/-! ### The arbiter -/

theorem State.arbitrate_queues (a : State) :
    a.arbitrate.replies.length ≤ a.replies.length ∧ (a.arbitrate.notice = a.notice ∨ a.arbitrate.notice = .zero) := by
  unfold State.arbitrate
  split
  · next r rest h => simp [h, State.transmit]
  · split
    · simp [State.transmit]
    · repeat' split
      all_goals simp [State.transmit]

theorem serve_queues (b a : State) :
    (serve b a).replies.length ≤ a.replies.length ∧ ((serve b a).notice = a.notice ∨ (serve b a).notice = .zero) := by
  unfold serve
  split
  · exact a.arbitrate_queues
  · exact ⟨Nat.le_refl _, .inl rfl⟩

theorem serve_repliesBounded {b a : State} (h : a.RepliesBounded) : (serve b a).RepliesBounded := by
  obtain ⟨hroom, hkept, hstop⟩ := h
  have hlength := (serve_queues b a).1
  exact ⟨Nat.le_trans hlength hroom, fun h => Nat.lt_of_le_of_lt hlength (hkept (by simpa using h)), by simpa using hstop⟩

theorem serve_noticeSound {b a : State} (h : a.NoticeSound) : (serve b a).NoticeSound := by
  unfold State.NoticeSound
  rcases (serve_queues b a).2 with hnotice | hnotice
  · rwa [hnotice]
  · simp [hnotice, Notice.zero]

/-! ### The messages -/

/-- SPIN_UP and SPIN_DOWN leave the queues and the RESTART alone. -/
structure QueuesStand (s v : State) : Prop where
  replies : v.replies = s.replies
  restart : v.restart = s.restart
  choiceHold : v.choiceHold = s.choiceHold
  stopRequest : v.stopRequest = s.stopRequest
  notice : v.notice = s.notice
  inbound : v.inbound = s.inbound
  parser : v.parser = s.parser
  now : v.now = s.now

theorem judgeSpinUp_queues (p : Port) (s : State) : QueuesStand s (judgeSpinUp p s).state := by
  unfold judgeSpinUp
  split <;> constructor <;> simp [accept, refuse]

theorem judgeSpinDown_queues (p : Port) (s : State) : QueuesStand s (judgeSpinDown p s).state := by
  unfold judgeSpinDown
  split
  · exact ⟨rfl, rfl, rfl, rfl, rfl, rfl, rfl, rfl⟩
  · split <;> constructor <;> simp [accept, refuse]

theorem MessageEffect.queues (h : MessageEffect s v) : QueuesStand s v := by
  cases h with
  | none => exact ⟨rfl, rfl, rfl, rfl, rfl, rfl, rfl, rfl⟩
  | spinUp p _ h => exact (show (judgeSpinUp p s).state = v from congrArg Judged.state h) ▸ judgeSpinUp_queues p s
  | spinDown p _ h => exact (show (judgeSpinDown p s).state = v from congrArg Judged.state h) ▸ judgeSpinDown_queues p s
  | _ => constructor <;> simp

theorem MessageEffect.paramsInRange (h : MessageEffect s v) (hs : s.ParamsInRange) : v.ParamsInRange := by
  have hstands (hparams : v.params = s.params) : v.ParamsInRange := by rwa [State.ParamsInRange, hparams]
  cases h with
  | none => exact hs
  | setp id n hrange _ =>
    intro other
    rw [State.applyParam_params, Params.get_put]
    split
    · next hid => rwa [hid]
    · exact hs other
  | spinUp p _ h =>
    refine hstands ((congrArg (fun j : Judged => j.state.params) h).symm.trans ?_)
    unfold judgeSpinUp
    split <;> simp [accept, refuse]
  | spinDown p _ h =>
    refine hstands ((congrArg (fun j : Judged => j.state.params) h).symm.trans ?_)
    unfold judgeSpinDown
    repeat' split
    all_goals simp [accept, refuse]
  | _ => exact hstands (by simp)

/-- R72: a tag is in use once, so that at most 32 requests are in the table. -/
theorem State.TagsDistinct.length_le (h : s.TagsDistinct) : s.table.length ≤ 32 := by
  have hcount := List.Nodup.length_le_of_subset h fun t _ => List.mem_finRange t
  rwa [State.admissionList, List.length_map, List.length_finRange] at hcount

/-- R81: an admission adds its tag and spindle at the admission list's tail. -/
theorem State.admitRequest_roll (m : SubmitRequest) : (s.admitRequest m).roll = s.roll ++ [(m.tag, m.spindle)] := by
  obtain ⟨f, hf, hadmit⟩ := State.registerDemand_setTable (s := s) (p := m.spindle) (s.table ++ [admittedRequest s m])
  have htable : (s.admitRequest m).table = (s.table ++ [admittedRequest s m]).map f := congrArg State.table hadmit
  have hname : (fun r => ((f r).tag, (f r).spindle)) = fun r : Request => (r.tag, r.spindle) :=
    funext fun r => Prod.ext (hf r).1 (hf r).2
  rw [State.roll, htable, List.map_map, Function.comp_def, hname, List.map_append]
  simp [State.roll, admittedRequest_names]

/-- R77: the tag of a request that is admitted is free. -/
theorem State.request_of_admitted {q : SubmitRequest} (h : submitRefusal s q = none) : s.request q.tag = none := by
  unfold submitRefusal at h
  split at h
  · cases h
  · next hfree => simpa using hfree

theorem State.admitRequest_tagsDistinct {q : SubmitRequest} (h : submitRefusal s q = none) (hs : s.TagsDistinct) :
    (s.admitRequest q).TagsDistinct := by
  have hfresh : q.tag ∉ s.admissionList := by
    have hnone := List.find?_eq_none.mp (State.request_of_admitted h)
    simpa [State.admissionList] using hnone
  rw [State.TagsDistinct, State.admissionList_eq, State.admitRequest_roll, List.map_append, ← State.admissionList_eq]
  exact List.nodup_append.mpr ⟨hs, by simp, by simpa using fun t ht (heq : t = q.tag) => hfresh (heq ▸ ht)⟩

/-- Every message but an accepted SUBMIT keeps what events keep. -/
theorem MessageEffect.tagsDistinct (h : MessageEffect s v) (hs : s.TagsDistinct) : v.TagsDistinct := by
  rcases h.kept_or_admitted with hkept | ⟨q, hfree, rfl⟩
  · exact hkept.tagsDistinct hs
  · exact State.admitRequest_tagsDistinct hfree hs

/-- R169: a message is handled with fewer than 32 DONE entries in the Stream. -/
theorem MessageEffect.donesBounded (h : MessageEffect s v) (hroom : s.streamDones < 32) (hs : s.DonesBounded) : v.DonesBounded := by
  have hdistinct := h.tagsDistinct hs.1
  refine ⟨hdistinct, ?_⟩
  rcases h.kept_or_admitted with hkept | ⟨q, hfree, rfl⟩
  · exact Nat.le_trans hkept.dones hs.2
  · have hstream : (s.admitRequest q).streamDones = s.streamDones := by simp [State.streamDones]
    have hlength := hdistinct.length_le
    omega

end

/-! ### Answers -/

section
variable {c : Instr} {s t : State}

theorem Kept.donesBounded (h : Kept s t) (hs : s.DonesBounded) : t.DonesBounded :=
  ⟨h.tagsDistinct hs.1, Nat.le_trans h.dones hs.2⟩

theorem State.reset_paramsInRange : State.reset.ParamsInRange := fun id => by cases id <;> decide

/-- R178: an answer keeps the parameters in range. -/
theorem Answer.paramsInRange (h : Answer c s t) (hs : s.ParamsInRange) : t.ParamsInRange := by
  cases h with
  | stands => exact hs
  | event v _ h => simpa [State.ParamsInRange, settle, h.params] using hs
  | message v _ _ _ _ _ h =>
    have hv : v.ParamsInRange := h.paramsInRange (by simpa [State.ParamsInRange] using hs)
    simpa [State.ParamsInRange] using hv
  | hardwareReset => exact State.reset_paramsInRange
  | _ => simpa [State.ParamsInRange, settle] using hs

/-- R149, R180 to R182: an answer keeps the holds of a RESTART in progress. -/
theorem Answer.restartSound (h : Answer c s t) (hs : s.RestartSound) : t.RestartSound := by
  have ⟨hchoice, hstop, hengaged⟩ := hs
  have hbefore (hset : s.stopRequest = true) : s.chan.isSome = true := hengaged (hstop.symm.trans hset)
  have serves {b a : State} (ha : a.RestartSound) : (serve b a).RestartSound := by simpa [State.RestartSound] using ha
  cases h with
  | stands => exact hs
  | event v _ h =>
    exact serves (finish_restartSound (by rw [h.choiceHold, h.restart, hchoice]) (by rw [h.stopRequest, h.restart, hstop]) hbefore)
  | message v kind seq code further _ h =>
    have hq := h.queues
    have hv : (finish s.popInbound v).RestartSound :=
      finish_restartSound (by simpa [hq.choiceHold, hq.restart] using hchoice) (by simpa [hq.stopRequest, hq.restart] using hstop)
        (by simpa using hbefore)
    exact serves (by simpa [State.RestartSound] using hv)
  | restart seq _ =>
    refine serves (finish_restartSound ?_ ?_ (by simpa using hbefore))
    · simp [State.takeRestart, State.beginRestart]
    · simp [State.takeRestart, State.beginRestart]
  | hardwareReset => simp [State.hardwareReset, State.reset, State.RestartSound]
  | _ => simpa [State.RestartSound] using hs

theorem State.popInbound_inboundBounded (h : s.InboundBounded) : s.popInbound.InboundBounded := by
  obtain ⟨hroom, hbegan, hmoment⟩ := h
  have hlength : s.popInbound.inbound.length ≤ s.inbound.length := by simp [State.popInbound]
  exact ⟨Nat.le_trans hlength hroom, fun begun hp => Nat.lt_of_le_of_lt hlength (hbegan begun (by simpa using hp)), hmoment⟩

/-- R167, R168: an answer keeps the receive side within its bounds. -/
theorem Answer.inboundBounded (h : Answer c s t) (hs : s.InboundBounded) : t.InboundBounded := by
  cases h with
  | stands => exact hs
  | event v _ h => simpa [State.InboundBounded, settle] using h.inbound hs
  | message v _ _ _ _ _ h =>
    have hq := h.queues
    simpa [State.InboundBounded, hq.inbound, hq.parser, hq.now] using State.popInbound_inboundBounded hs
  | restart seq _ => simpa [State.InboundBounded, settle] using State.popInbound_inboundBounded hs
  | level p f => exact hs.later (by simp) (by simp) (by simp)
  | assertReset => exact .hunting rfl hs.1
  | hardwareReset => exact .hunting rfl (Nat.zero_le _)

/-- R170, R182: an answer keeps the reply queue within its bounds. -/
theorem Answer.repliesBounded (h : Answer c s t) (hs : s.RepliesBounded) : t.RepliesBounded := by
  have ⟨_, _, hstop⟩ := hs
  cases h with
  | stands => exact hs
  | event v _ h =>
    exact serve_repliesBounded (finish_repliesBounded (by simpa [State.RepliesBounded, h.replies, h.restart, h.stopRequest] using hs))
  | message v kind seq code further hcan h =>
    obtain ⟨-, -, hrestart, hroom, -⟩ := (s.canHandle_iff c).mp hcan
    have hq := h.queues
    have hidle : v.stopRequest = false := by
      simpa [hq.stopRequest, hrestart] using hstop
    have hdone : stopDone s.popInbound v = false := Bool.eq_false_iff.mpr fun h => by simp [stopDone_stopRequest h] at hidle
    obtain ⟨hreplies, -, -, hres, -, hrequest, -, -⟩ := finish_frame_running s.popInbound v hdone
    refine serve_repliesBounded ⟨?_, ?_, ?_⟩
    · simpa [State.pushReply, hreplies, hq.replies] using Nat.succ_le_of_lt hroom
    · simp [hres, hq.restart, hrestart]
    · simp [hrequest, hidle]
  | restart seq hcan =>
    obtain ⟨-, -, -, hroom, -⟩ := (s.canHandle_iff _).mp hcan
    refine serve_repliesBounded (finish_repliesBounded ⟨?_, fun _ => ?_, fun _ => ?_⟩)
    · simpa [State.takeRestart, State.beginRestart] using Nat.le_of_lt hroom
    · simpa [State.takeRestart, State.beginRestart] using hroom
    · simp [State.takeRestart, State.beginRestart]
  | hardwareReset => simp [State.hardwareReset, State.reset, State.RepliesBounded]
  | _ => simpa [State.RepliesBounded] using hs

/-- R169: an answer keeps the DONE entries within their bound. -/
theorem Answer.donesBounded (h : Answer c s t) (hs : s.DonesBounded) : t.DonesBounded := by
  cases h with
  | stands => exact hs
  | event v _ h => exact (h.kept.trans (settle_kept _ _)).donesBounded hs
  | message v kind seq code further hcan h =>
    obtain ⟨-, -, -, -, hdones⟩ := (s.canHandle_iff c).mp hcan
    exact ((finish_kept _ _).trans ((State.pushReply_kept _ _ _ _ _).trans (serve_kept _ _))).donesBounded
      (h.donesBounded (by simpa [State.streamDones] using hdones) (s.popInbound_kept.donesBounded hs))
  | restart seq _ => exact (s.popInbound_kept.trans ((State.takeRestart_kept _ seq).trans (settle_kept _ _))).donesBounded hs
  | hardwareReset => simp [State.DonesBounded, State.TagsDistinct, State.admissionList, State.streamDones, State.hardwareReset,
    State.reset]
  | _ => simpa [State.DonesBounded, State.TagsDistinct, State.admissionList, State.streamDones] using hs

/-- R191: an answer keeps the notice counts within 16 bits. -/
theorem Answer.noticeSound (h : Answer c s t) (hs : s.NoticeSound) : t.NoticeSound := by
  cases h with
  | stands => exact hs
  | event v _ h => exact serve_noticeSound (finish_noticeSound (h.notice hs))
  | message v _ _ _ _ _ h =>
    have hv : v.NoticeSound := by simpa [State.NoticeSound, h.queues.notice] using hs
    exact serve_noticeSound (by simpa [State.NoticeSound] using finish_noticeSound (b := s.popInbound) hv)
  | restart seq _ =>
    exact serve_noticeSound (finish_noticeSound (by simpa [State.takeRestart, State.beginRestart, State.NoticeSound] using hs))
  | hardwareReset => simp [State.hardwareReset, State.reset, State.NoticeSound, Notice.zero]
  | _ => simpa [State.NoticeSound] using hs

end

/-- Settles O60: the queues and records of the tick, and of every answer. -/
theorem queuesAndRecordsStaySound : Obligations.QueuesAndRecordsStaySound := by
  unfold Obligations.QueuesAndRecordsStaySound
  intro s t hstep
  have hkept := step_recordsKept hstep
  rcases step_answer hstep with rfl | ⟨c, rest, -, hanswer⟩
  · refine ⟨?_, ?_, fun h => h.later rfl rfl (Nat.le_succ _), ?_, ?_, hkept.events, ?_, hkept.media⟩
    · simp [State.ParamsInRange]
    · simp [State.RestartSound]
    · simp [State.RepliesBounded]
    · simp [State.DonesBounded, State.TagsDistinct, State.admissionList, State.streamDones]
    · simp [State.NoticeSound]
  · exact ⟨hanswer.paramsInRange, hanswer.restartSound, hanswer.inboundBounded, hanswer.repliesBounded, hanswer.donesBounded,
      hkept.events, hanswer.noticeSound, hkept.media⟩

end Sys2Proof.Machine
end

section
/-! The counts of the requests are not kept by themselves: O58 fails at a state in which two requests share a tag. -/

-- One declaration after another: elaborated in parallel, these files ask for more memory than a check has.
set_option Elab.async false

namespace Sys2Proof.Machine

/-- A WRITE of three sectors under tag 0 that waits for spindle 0, with a staged list. -/
def heldWrite (staged : List Buffer) : Request where
  tag := 0
  kind := .write
  spindle := 0
  start := ⟨0, 0, 0⟩
  count := 3
  flags := ⟨false, false, false, false, false⟩
  fill := none
  admitted := 0
  status := .held
  holds := ⟨true, false, staged.isEmpty, false⟩
  next := ⟨0, 0, 0⟩
  done := 0
  suspects := 0
  firstSuspect := none
  retries := 0
  budget := 0
  overdue := false
  cancelPending := false
  frontier := 0
  staged := staged
  ageTimer := none

/-- The fields of the WDATA for tag 0, index 0, with a payload of zeros. -/
def zeroFields : WdataFields := ⟨0, 0, List.replicate 1024 0⟩

theorem zeroFields_payload_length : zeroFields.payload.length = 1024 := List.length_replicate

def zeroWdata : Instr := .wdata 0 (.fields zeroFields)

/-- Two requests under one tag, the younger with 16 buffers staged, and a WDATA heard for the tag. `State.CountsSound` does not exclude
it, for it does not ask that tags are distinct; no run reaches it (R72). -/
def twinWrites : State :=
  { State.reset with
    pending := [zeroWdata]
    inbound := (encodeFrame zeroWdata).toList
    table := [heldWrite [], heldWrite (List.replicate 16 ⟨0, 0, []⟩)] }

theorem twinWrites_countsSound : twinWrites.CountsSound := by
  refine ⟨State.reset_paramsInRange, ?_⟩
  simp [twinWrites, heldWrite]

/-- The state in which the WDATA is judged. -/
def twinWritesHeard : State := { twinWrites with pending := [] }

theorem twinWrites_canHandle : twinWritesHeard.canHandle zeroWdata = true := by
  obtain ⟨f, hf, hdecode⟩ := decodeFrame_encodeFrame (i := zeroWdata) (beq_iff_eq.mpr zeroFields_payload_length) rfl
  have hinbound : twinWritesHeard.inbound = [f] := by
    rw [show twinWritesHeard.inbound = (encodeFrame zeroWdata).toList from rfl, hf]
    rfl
  rw [State.canHandle_iff, hinbound]
  exact ⟨rfl, congrArg some hdecode, rfl, by decide, by decide⟩

/-- The WDATA is accepted for the older request, and both take its buffer. -/
theorem twinWrites_judged :
    judgeBody (.fields zeroFields) judgeWdata twinWritesHeard.popInbound =
      accept (twinWritesHeard.popInbound.stage 0 0 zeroFields.payload) :=
  judgeWdata_accepted (s := twinWritesHeard.popInbound) (m := zeroFields) (t := 0) (r := heldWrite []) rfl (by decide) rfl (by decide)

/-- R156: the step stages a seventeenth buffer of the younger request. -/
theorem twinWrites_step : ∃ t, step twinWrites = .next t ∧ ∃ r ∈ t.table, r.staged.length = 17 := by
  obtain ⟨v, hv⟩ : ∃ v, v = twinWritesHeard.popInbound.stage 0 0 zeroFields.payload := ⟨_, rfl⟩
  have hstage := twinWritesHeard.popInbound.stage_eq 0 0 zeroFields.payload
  rw [← hv] at hstage
  have hrunning : stopDone twinWritesHeard.popInbound v = false := by
    rw [stopDone, congrArg State.stopRequest hstage]
    rfl
  have hstep := handle_accept zeroWdata 0x02 0 (judgeBody (.fields zeroFields) judgeWdata) _ v twinWrites_canHandle
    (hv ▸ twinWrites_judged)
  refine ⟨_, hstep, ?_⟩
  have hstaged : ∃ r ∈ v.table.map Request.unjudged, r.staged.length = 17 := by
    rw [congrArg State.table hstage]
    exact ⟨_, List.mem_cons_of_mem _ (List.mem_cons_self ..), rfl⟩
  rw [← finish_unjudged hrunning] at hstaged
  obtain ⟨q, hq, hlength⟩ := hstaged
  obtain ⟨r, hr, rfl⟩ := List.mem_map.mp hq
  exact ⟨r, by simpa using hr, hlength⟩

/-- Refutes O58: with two requests under one tag a WDATA is judged by the older one's staged list and joins both, so that the younger
one's grows past 16. -/
theorem not_engagementStaysExact : ¬ Obligations.EngagementStaysExact := by
  unfold Obligations.EngagementStaysExact
  intro h
  obtain ⟨t, hstep, r, hr, hlength⟩ := twinWrites_step
  obtain ⟨-, -, -, hcounts, -⟩ := h twinWrites t hstep
  obtain ⟨-, hsizes⟩ := hcounts twinWrites_countsSound
  obtain ⟨-, -, hstaged⟩ := hsizes r hr
  omega

end Sys2Proof.Machine
end

section
/-! The hold reasons along the admission list (R83 to R88), and the changes that keep them up to date: for O59. -/

-- One declaration after another: elaborated in parallel, these files ask for more memory than a check has.
set_option Elab.async false

namespace Sys2Proof.Machine

/-! ### Requests graded one behind another -/

/-- What `State.HoldsRight` says of a request, its SPINDLE and its BARRIER given. -/
def Request.Graded (r : Request) (spindle barrier : Bool) : Prop :=
  r.holds.spindle = spindle ∧ r.holds.barrier = barrier ∧ r.holds.noData = noDataHold r ∧ (r.status = .held ↔ r.holds.held = true)

/-- What a request is to the BARRIER of the younger ones (R87). -/
def Request.fence (r : Request) : Port × Bool := (r.spindle, r.flags.barrier)

/-- Every request of a list that is not ACTIVE is graded, each behind the ones before it. -/
def GradedBehind (hold : Port → Bool) : List Request → List Request → Prop
  | _, [] => True
  | older, r :: rest => (r.status ≠ .active → r.Graded (hold r.spindle) (barrierHold older r)) ∧ GradedBehind hold (older ++ [r]) rest

/-- The same, with BARRIER left open for the requests of a spindle. -/
def GradedOff (p : Port) (hold : Port → Bool) : List Request → List Request → Prop
  | _, [] => True
  | older, r :: rest =>
    (r.status ≠ .active → ∃ b, r.Graded (hold r.spindle) b ∧ (r.spindle ≠ p → b = barrierHold older r)) ∧
      GradedOff p hold (older ++ [r]) rest

/-- R83 to R85: the hold reasons of every request that is not ACTIVE are up to date. -/
def State.Graded (s : State) : Prop := GradedBehind s.spindleHold [] s.table

theorem barrierHold_fence (older : List Request) (r : Request) :
    barrierHold older r = (older.map Request.fence).any fun x => x.1 == r.fence.1 && (r.fence.2 || x.2) := by
  simp [barrierHold, List.any_map, Function.comp_def, Request.fence]

theorem barrierHold_congr {older other : List Request} {r q : Request} (h : other.map Request.fence = older.map Request.fence)
    (hr : q.fence = r.fence) : barrierHold other q = barrierHold older r := by
  rw [barrierHold_fence, barrierHold_fence, h, hr]

section
variable {hold hold' : Port → Bool} {older older' l : List Request}

theorem gradedBehind_iff :
    GradedBehind hold older l ↔ ∀ before r after, l = before ++ r :: after → r.status ≠ .active →
      r.Graded (hold r.spindle) (barrierHold (older ++ before) r) := by
  induction l generalizing older with
  | nil => simp [GradedBehind]
  | cons q rest ih =>
    rw [GradedBehind, ih]
    constructor
    · rintro ⟨hfirst, hrest⟩ before r after hl hr
      cases before with
      | nil =>
        obtain ⟨rfl, -⟩ := List.cons.inj hl
        simpa using hfirst hr
      | cons x before =>
        obtain ⟨rfl, htail⟩ := List.cons.inj hl
        simpa using hrest before r after htail hr
    · intro h
      refine ⟨fun hq => by simpa using h [] q rest rfl hq, fun before r after hl hr => ?_⟩
      simpa using h (q :: before) r after (by rw [hl]; rfl) hr

/-- A change of every request of a list that keeps it graded. -/
theorem GradedBehind.map {f : Request → Request} (h : GradedBehind hold older l)
    (holder : older'.map Request.fence = older.map Request.fence) (hfence : ∀ r ∈ l, (f r).fence = r.fence)
    (hf : ∀ r ∈ l, (f r).status ≠ .active → r.status ≠ .active ∧ ∀ b, r.Graded (hold r.spindle) b → (f r).Graded (hold' r.spindle) b) :
    GradedBehind hold' older' (l.map f) := by
  induction l generalizing older older' with
  | nil => trivial
  | cons r rest ih =>
    obtain ⟨hfirst, hrest⟩ := h
    have hr := hfence r List.mem_cons_self
    refine ⟨fun hactive => ?_, ih hrest (by simp [holder, hr]) (fun q hq => hfence q (List.mem_cons_of_mem _ hq))
      fun q hq => hf q (List.mem_cons_of_mem _ hq)⟩
    obtain ⟨hwaiting, hgraded⟩ := hf r List.mem_cons_self hactive
    rw [show (f r).spindle = r.spindle from congrArg Prod.fst hr, barrierHold_congr holder hr]
    exact hgraded _ (hfirst hwaiting)

/-- R88: requests of a spindle leave a list; the others' BARRIER stands. -/
theorem GradedBehind.filter {c : Request → Bool} {p : Port} (h : GradedBehind hold older l)
    (holder : ∀ r : Request, r.spindle ≠ p → barrierHold older' r = barrierHold older r) (hc : ∀ r ∈ l, c r = false → r.spindle = p) :
    GradedOff p hold older' (l.filter c) := by
  induction l generalizing older older' with
  | nil => trivial
  | cons r rest ih =>
    obtain ⟨hfirst, hrest⟩ := h
    have hothers : ∀ q ∈ rest, c q = false → q.spindle = p := fun q hq => hc q (List.mem_cons_of_mem _ hq)
    cases hr : c r with
    | true =>
      rw [List.filter_cons_of_pos hr]
      refine ⟨fun hactive => ⟨_, hfirst hactive, fun hp => (holder r hp).symm⟩, ih hrest (fun q hq => ?_) hothers⟩
      have hq' := holder q hq
      unfold barrierHold at hq' ⊢
      rw [List.any_append, List.any_append, hq']
    | false =>
      rw [List.filter_cons_of_neg (by simp [hr])]
      refine ih hrest (fun q hq => ?_) hothers
      have hgone : (r.spindle == q.spindle) = false := by
        rw [hc r List.mem_cons_self hr]
        exact beq_eq_false_iff_ne.mpr hq.symm
      rw [holder q hq]
      unfold barrierHold
      simp [hgone]

/-- R84: an evaluated request is HELD exactly with a reason. -/
theorem Request.withHolds_graded {r : Request} (hr : r.status ≠ .active) (h : Holds) (hdata : h.noData = noDataHold r) :
    (r.withHolds h).Graded h.spindle h.barrier := by
  have hstands : noDataHold (r.withHolds h) = noDataHold r := by simp [Request.withHolds, hr, noDataHold]
  unfold Request.Graded
  rw [hstands]
  simp only [Request.withHolds, if_neg hr, Holds.held, hdata, true_and]
  split <;> simp_all

theorem Request.withHolds_fence (r : Request) (h : Holds) : (r.withHolds h).fence = r.fence := by
  unfold Request.withHolds Request.fence
  split <;> rfl

/-- R84, R88: the evaluation of BARRIER for the requests of a spindle. -/
theorem GradedOff.regrade {p : Port} (h : GradedOff p hold older l) (holder : older'.map Request.fence = older.map Request.fence) :
    GradedBehind hold older' (regradeBarriers p older l) := by
  induction l generalizing older older' with
  | nil => trivial
  | cons r rest ih =>
    obtain ⟨hfirst, hrest⟩ := h
    rw [regradeBarriers]
    split
    · next hp =>
      rw [Request.evaluate_eq]
      have hfence := r.withHolds_fence { r.holds with barrier := barrierHold older r }
      refine ⟨fun hactive => ?_, ih hrest (by simp [holder, hfence])⟩
      have hwaiting : r.status ≠ .active := fun hr => hactive ((Request.withHolds_active _ _).mpr hr)
      obtain ⟨b, ⟨hspindle, -, hdata, -⟩, -⟩ := hfirst hwaiting
      rw [Request.withHolds_spindle, barrierHold_congr holder hfence, ← hspindle]
      exact Request.withHolds_graded hwaiting _ hdata
    · next hp =>
      refine ⟨fun hactive => ?_, ih hrest (by simp [holder])⟩
      obtain ⟨b, hgraded, hb⟩ := hfirst hactive
      rw [barrierHold_congr (r := r) holder rfl, ← hb hp]
      exact hgraded

end

theorem State.olderThan_split {s : State} (hd : s.TagsDistinct) {before after : List Request} {r : Request}
    (h : s.table = before ++ r :: after) : s.olderThan r.tag = before := by
  rw [State.TagsDistinct, State.admissionList, h, List.map_append, List.map_cons, List.nodup_append] at hd
  obtain ⟨-, -, hdisjoint⟩ := hd
  rw [State.olderThan, h, List.takeWhile_append_of_pos]
  · simp
  · intro q hq
    simpa using hdisjoint q.tag (List.mem_map_of_mem hq) r.tag List.mem_cons_self

/-- R75: with a tag in use once, a request's older ones are the ones before it. -/
theorem State.graded_iff {s : State} (hd : s.TagsDistinct) :
    s.Graded ↔ ∀ r ∈ s.table, r.status ≠ .active → s.HoldsRight r := by
  rw [State.Graded, gradedBehind_iff]
  constructor
  · intro h r hr hactive
    obtain ⟨before, after, hl⟩ := List.append_of_mem hr
    have hgraded := h before r after hl hactive
    rwa [List.nil_append, ← State.olderThan_split hd hl] at hgraded
  · intro h before r after hl hactive
    have hright := h r (hl ▸ List.mem_append_right _ List.mem_cons_self) hactive
    rwa [List.nil_append, ← State.olderThan_split hd hl]

theorem State.holdsExact_iff {s : State} : s.HoldsExact ↔ s.EngagementExact ∧ s.Graded :=
  and_congr_right fun h => (State.graded_iff h.1).symm

/-! ### The one ACTIVE request -/

/-- A request's tag and spindle, and whether it is ACTIVE. -/
def Request.seat (r : Request) : Tag × Port × Bool := (r.tag, r.spindle, r.status == .active)

/-- The engagement's tag and spindle. -/
def Engagement.seat (e : Engagement) : Tag × Port := (e.tag, e.spindle)

theorem Request.withHolds_seat (r : Request) (h : Holds) : (r.withHolds h).seat = r.seat := by
  have hactive : ((r.withHolds h).status == .active) = (r.status == .active) := by
    rw [Bool.eq_iff_iff, beq_iff_eq, beq_iff_eq, Request.withHolds_active]
  simp [Request.seat, hactive]

/-- R82, R122: `State.EngagementExact` speaks of the seats alone. -/
theorem State.engagementExact_iff {s : State} :
    s.EngagementExact ↔ ((s.table.map Request.seat).map Prod.fst).Nodup ∧
      (∀ x ∈ s.table.map Request.seat, x.2.2 = true ↔ (s.chan.map Engagement.seat).any (fun y => y.1 == x.1) = true) ∧
      ∀ y, s.chan.map Engagement.seat = some y → ∃ x ∈ s.table.map Request.seat, x.1 = y.1 ∧ x.2.1 = y.2 := by
  have htags : (s.table.map Request.seat).map Prod.fst = s.admissionList := by
    rw [List.map_map]
    rfl
  have hany (t : Tag) : (s.chan.map Engagement.seat).any (fun y => y.1 == t) = s.chan.any fun e => e.tag == t := by
    cases s.chan <;> rfl
  have hfound (e : Engagement) : (∃ x ∈ s.table.map Request.seat, x.1 = e.seat.1 ∧ x.2.1 = e.seat.2) ↔
      ∃ r ∈ s.table, r.tag = e.tag ∧ r.spindle = e.spindle := by
    constructor
    · rintro ⟨x, hx, htag, hspindle⟩
      obtain ⟨r, hr, rfl⟩ := List.mem_map.mp hx
      exact ⟨r, hr, htag, hspindle⟩
    · exact fun ⟨r, hr, htag, hspindle⟩ => ⟨r.seat, List.mem_map.mpr ⟨r, hr, rfl⟩, htag, hspindle⟩
  simp only [State.EngagementExact, State.TagsDistinct, htags, hany, List.forall_mem_map, Option.map_eq_some_iff, forall_exists_index,
    and_imp]
  refine and_congr_right fun _ => and_congr ?_ ?_
  · simp [Request.seat]
  · constructor
    · rintro h _ e he rfl
      exact (hfound e).mpr (h e he)
    · exact fun h e he => (hfound e).mp (h _ e he rfl)

theorem State.EngagementExact.congr {s t : State} (h : s.EngagementExact) (hseats : t.table.map Request.seat = s.table.map Request.seat)
    (hchan : t.chan.map Engagement.seat = s.chan.map Engagement.seat) : t.EngagementExact := by
  rw [State.engagementExact_iff] at h ⊢
  rwa [hseats, hchan]

/-! ### Changes that keep the hold reasons up to date -/

/-- A change that leaves who is engaged and keeps the hold reasons up to date. -/
structure Steady (s t : State) : Prop where
  seats : t.table.map Request.seat = s.table.map Request.seat
  engaged : t.chan.map Engagement.seat = s.chan.map Engagement.seat
  graded : s.Graded → t.Graded

/-- A change that keeps the hold reasons up to date, and does not engage an idle channel. -/
structure HoldsKept (s t : State) : Prop where
  holds : s.HoldsExact → t.HoldsExact
  idle : s.chan = none → t.chan = none

theorem Steady.refl (s : State) : Steady s s := ⟨rfl, rfl, id⟩

theorem Steady.trans {s t u : State} (h : Steady s t) (k : Steady t u) : Steady s u :=
  ⟨k.seats.trans h.seats, k.engaged.trans h.engaged, k.graded ∘ h.graded⟩

theorem Steady.foldl {α : Type} {f : State → α → State} (h : ∀ u x, Steady u (f u x)) (l : List α) (s : State) :
    Steady s (l.foldl f s) := by
  induction l generalizing s with
  | nil => exact Steady.refl s
  | cons x l ih => exact (h s x).trans (ih _)

theorem Steady.idle {s t : State} (h : Steady s t) (hidle : s.chan = none) : t.chan = none := by
  have hengaged := h.engaged
  rwa [hidle, Option.map_none, Option.map_eq_none_iff] at hengaged

theorem Steady.kept {s t : State} (h : Steady s t) : HoldsKept s t where
  holds hs := by
    rw [State.holdsExact_iff] at hs ⊢
    exact ⟨hs.1.congr h.seats h.engaged, h.graded hs.2⟩
  idle := h.idle

theorem HoldsKept.refl (s : State) : HoldsKept s s := ⟨id, id⟩

theorem HoldsKept.trans {s t u : State} (h : HoldsKept s t) (k : HoldsKept t u) : HoldsKept s u :=
  ⟨k.holds ∘ h.holds, k.idle ∘ h.idle⟩

theorem HoldsKept.foldl {α : Type} {f : State → α → State} (h : ∀ u x, HoldsKept u (f u x)) (l : List α) (s : State) :
    HoldsKept s (l.foldl f s) := by
  induction l generalizing s with
  | nil => exact HoldsKept.refl s
  | cons x l ih => exact (h s x).trans (ih _)

/-- A change of a request that nothing of its seat and its hold reasons depends on. -/
structure Request.Gentle (r u : Request) : Prop where
  seat : u.seat = r.seat
  fence : u.fence = r.fence
  graded : r.status ≠ .active → ∀ a b, r.Graded a b → u.Graded a b

theorem Request.Gentle.refl (r : Request) : r.Gentle r := ⟨rfl, rfl, fun _ _ _ => id⟩

section
variable {s t : State}

/-- Every request changed gently, with SPINDLE as it stood. -/
theorem Steady.map {f : Request → Request} (htable : t.table = s.table.map f) (hf : ∀ r ∈ s.table, r.Gentle (f r))
    (hchan : t.chan.map Engagement.seat = s.chan.map Engagement.seat := by simp)
    (hhold : ∀ q, t.spindleHold q = s.spindleHold q := by simp [State.spindleHold]) : Steady s t where
  seats := by
    rw [htable, List.map_map]
    exact List.map_congr_left fun r hr => (hf r hr).seat
  engaged := hchan
  graded h := by
    rw [State.Graded, htable, funext hhold]
    refine h.map rfl (fun r hr => (hf r hr).fence) fun r hr hactive => ?_
    have hsame : ((f r).status == .active) = (r.status == .active) := congrArg (fun x => x.2.2) (hf r hr).seat
    have hwaiting : r.status ≠ .active := fun h => hactive (beq_iff_eq.mp (hsame.trans (beq_iff_eq.mpr h)))
    exact ⟨hwaiting, fun b => (hf r hr).graded hwaiting _ b⟩

/-- The requests and the channel as they stood. -/
theorem Steady.still (htable : t.table = s.table := by simp) (hchan : t.chan.map Engagement.seat = s.chan.map Engagement.seat := by simp)
    (hhold : ∀ q, t.spindleHold q = s.spindleHold q := by simp [State.spindleHold]) : Steady s t :=
  .map (f := id) (htable.trans (List.map_id _).symm) (fun r _ => .refl r) hchan hhold

/-- Requests, channel and spindles as they stood. -/
theorem Steady.quiet (htable : t.table = s.table := by simp) (hchan : t.chan = s.chan := by simp)
    (hspindles : t.spindles = s.spindles := by simp) : Steady s t :=
  .still htable (by rw [hchan]) fun q => by rw [State.spindleHold, State.spindle_congr hspindles, State.spindleHold]

/-- R84: SPINDLE evaluated for one spindle. -/
theorem Steady.evaluated {p : Port} (htable : t.table = s.table.map (Request.spindleEvaluated p (t.spindleHold p)))
    (hchan : t.chan = s.chan := by simp) (hhold : ∀ q, q ≠ p → t.spindleHold q = s.spindleHold q) : Steady s t where
  seats := by
    rw [htable, List.map_map]
    refine List.map_congr_left fun r _ => ?_
    unfold Function.comp Request.spindleEvaluated
    split
    · exact r.withHolds_seat _
    · rfl
  engaged := by rw [hchan]
  graded h := by
    rw [State.Graded, htable]
    refine h.map rfl (fun r _ => ?_) fun r _ hactive => ?_
    · unfold Request.spindleEvaluated
      split
      · exact r.withHolds_fence _
      · rfl
    · unfold Request.spindleEvaluated at hactive ⊢
      split at hactive
      · next hp =>
        have hwaiting : r.status ≠ .active := fun hr => hactive ((Request.withHolds_active _ _).mpr hr)
        refine ⟨hwaiting, fun b ⟨_, hbarrier, hdata, _⟩ => ?_⟩
        rw [hp, if_pos rfl, ← hbarrier]
        exact Request.withHolds_graded hwaiting _ hdata
      · next hp =>
        rw [if_neg hp, hhold _ hp]
        exact ⟨hactive, fun _ => id⟩

end

end Sys2Proof.Machine
end

section
/-! The operations of the Spindle Manager, of completion and of the Scheduler keep the hold reasons up to date (R83 to R88). -/

-- One declaration after another: elaborated in parallel, these files ask for more memory than a check has.
set_option Elab.async false

namespace Sys2Proof.Machine

/-! ### Requests and the channel's record -/

theorem Request.afterReturn_gentle (n : Nat) (r : Request) : r.Gentle (r.afterReturn n) := by
  unfold Request.afterReturn
  split
  · refine ⟨r.withHolds_seat _, r.withHolds_fence _, fun hr a b h => ?_⟩
    obtain ⟨rfl, rfl, hdata, -⟩ := h
    exact Request.withHolds_graded hr _ hdata
  · exact .refl r

/-- A change of the requests with a tag on which no hold reason depends. -/
theorem State.modRequest_steady {s : State} {t : Tag} {f : Request → Request} (hf : ∀ r ∈ s.table, r.tag = t → r.Gentle (f r)) :
    Steady s (s.modRequest t f) := by
  refine .map (f := fun r => if r.tag = t then f r else r) rfl (fun r hr => ?_) rfl fun _ => rfl
  split
  · next ht => exact hf r hr ht
  · exact .refl r

section
variable (s : State)

theorem State.returnBuffers_steady (n : Nat) : Steady s (s.returnBuffers n) :=
  .map (by rw [State.returnBuffers_eq]) fun r _ => r.afterReturn_gentle n

theorem State.modChan_steady {f : Engagement → Engagement} (hf : ∀ e, (f e).seat = e.seat) : Steady s (s.modChan f) := by
  refine .still (by simp) ?_
  rw [State.modChan_chan, Option.map_map]
  exact congrArg (fun g => s.chan.map g) (funext hf)

theorem State.countSector_steady (t : Tag) : Steady s (s.countSector t) :=
  State.modRequest_steady fun _ _ _ => ⟨rfl, rfl, fun _ _ _ => id⟩

theorem State.countWholeSlot_steady : Steady s s.countWholeSlot := by
  unfold State.countWholeSlot
  repeat' split
  · exact Steady.refl s
  · exact s.countSector_steady _
  · exact Steady.refl s
  · exact Steady.refl s

end

/-! ### Spindles -/

section
variable {s : State} {p : Port} {f : Spindle → Spindle}

theorem State.modSpindle_steady (hstate : (f (s.spindle p)).state = (s.spindle p).state := by rfl)
    (htracked : (f (s.spindle p)).tracker.tracked = (s.spindle p).tracker.tracked := by rfl) : Steady s (s.modSpindle p f) := by
  obtain ⟨-, hsame, hother⟩ := s.modSpindle_changes p f
  refine .still (by simp) (by simp) fun q => ?_
  by_cases hq : q = p
  · rw [hq, State.spindleHold, State.spindleHold, hsame, hstate, htracked]
  · rw [State.spindleHold, State.spindleHold, hother q hq]

/-- R41, R84: a change of a spindle's state. -/
theorem State.enterState_steady (st : SpindleState) : Steady s (s.enterState p st) := by
  refine .evaluated (p := p) ?_ (by simp) fun q hq => by rw [State.spindleHold, State.spindleHold, State.enterState_spindle_of_ne s st hq]
  rw [State.enterState_table, State.spindleHold, State.enterState_spindle_same]
  rfl

theorem State.joinWait_steady : Steady s (s.joinWait p) :=
  Steady.trans (t := s.setWaitList (s.waitList ++ [p])) .still (State.enterState_steady _)

theorem State.endSpinDown_steady : Steady s (s.endSpinDown p) := by
  have hpark : Steady s (s.enterState p .parked) := State.enterState_steady _
  unfold State.endSpinDown
  dsimp only
  split
  · exact (hpark.trans State.modSpindle_steady).trans State.joinWait_steady
  · exact hpark

theorem State.enterSpinningDown_steady : Steady s (s.enterSpinningDown p) := by
  have hbegin : Steady s (s.beginSpinDown p) := (State.enterState_steady _).trans State.modSpindle_steady
  rw [State.enterSpinningDown_eq]
  split
  · exact hbegin
  · exact hbegin.trans State.endSpinDown_steady

theorem State.startHead_steady : Steady s s.startHead := by
  unfold State.startHead
  split
  · exact Steady.refl s
  · next rest _ => exact (Steady.trans (t := s.setWaitList rest) .still (State.enterState_steady _)).trans State.modSpindle_steady

theorem State.budgetRounds_steady (n : Nat) (s : State) : Steady s (s.budgetRounds n) := by
  induction n generalizing s with
  | zero => exact Steady.refl s
  | succ n ih =>
    unfold State.budgetRounds
    split
    · exact State.startHead_steady.trans (ih _)
    · split
      · exact State.enterSpinningDown_steady.trans (ih _)
      · exact Steady.refl s

theorem State.evalBudget_steady : Steady s s.evalBudget := State.budgetRounds_steady _ s

theorem State.issueRestore_steady : Steady s (s.issueRestore p) := by
  unfold State.issueRestore
  split
  · exact State.modSpindle_steady
  · exact Steady.refl s

theorem State.startIdle_steady : Steady s (s.startIdle p) := by
  unfold State.startIdle
  split
  · exact State.modSpindle_steady
  · exact Steady.refl s

theorem State.registerDemand_steady : Steady s (s.registerDemand p) := by
  unfold State.registerDemand
  split
  · exact State.joinWait_steady
  · exact State.modSpindle_steady
  · exact State.modSpindle_steady
  · exact Steady.refl s

theorem State.chooseSeek_steady : Steady s (s.chooseSeek p) := by
  unfold State.chooseSeek
  repeat' split
  · exact Steady.refl s
  · exact Steady.refl s
  · exact State.modSpindle_steady

theorem State.outOfService_steady (st : SpindleState) (cause : Option Cause) : Steady s (s.outOfService p st cause) :=
  Steady.trans State.modSpindle_steady (State.enterState_steady _)

end

/-! ### Completion -/

section
variable {s : State} {t : Tag}

theorem State.complete_seats (o : Outcome) (cause : Option Cause) :
    (s.complete t o cause).table.map Request.seat = (s.table.map Request.seat).filter fun x => x.1 != t := by
  have hfilter : (s.table.map Request.seat).filter (fun x => x.1 != t) = (s.table.filter fun q => q.tag != t).map Request.seat := by
    rw [List.filter_map]
    rfl
  rw [hfilter]
  cases hr : s.request t with
  | none =>
    rw [State.complete_free hr, List.filter_eq_self.mpr]
    exact fun q hq => by simpa using List.find?_eq_none.mp hr q hq
  | some r =>
    obtain rfl := State.request_tag hr
    rw [congrArg State.table (State.complete_frame_eq hr o cause), map_barriersEvaluated Request.withHolds_seat, List.map_map]
    exact List.map_congr_left fun q _ => (q.afterReturn_gentle _).seat

theorem State.complete_chan (o : Outcome) (cause : Option Cause) (hr : (s.request t).isSome = true) :
    (s.complete t o cause).chan = if s.chan.any (fun e => e.tag == t) then none else s.chan := by
  obtain ⟨r, hr⟩ := Option.isSome_iff_exists.mp hr
  obtain rfl := State.request_tag hr
  exact congrArg State.chan (State.complete_frame_eq hr o cause)

/-- R88, R96: a completion leaves the hold reasons up to date: BARRIER is evaluated where a request has gone. -/
theorem State.complete_graded (o : Outcome) (cause : Option Cause) (hd : s.TagsDistinct) (h : s.Graded) :
    (s.complete t o cause).Graded := by
  cases hr : s.request t with
  | none => rwa [State.complete_free hr]
  | some r =>
    obtain rfl := State.request_tag hr
    have hhold : (s.complete r.tag o cause).spindleHold = s.spindleHold := by
      funext q
      by_cases hq : q = r.spindle
      · rw [State.spindleHold, hq, State.complete_spindle_same hr hd]
        rfl
      · rw [State.spindleHold, State.complete_spindle_of_ne hr o cause hq]
        rfl
    obtain ⟨n, hn⟩ : ∃ n, n = s.completionBuffers r := ⟨_, rfl⟩
    have htable := congrArg State.table (State.complete_frame_eq hr o cause)
    have hreturned : GradedBehind s.spindleHold [] (s.table.map (Request.afterReturn n)) := by
      have hgraded := (s.returnBuffers_steady n).graded h
      rwa [State.Graded, State.returnBuffers_eq] at hgraded
    have hgone := hreturned.filter (c := fun q => q.tag != r.tag) (p := r.spindle) (older' := []) (fun _ _ => rfl) fun q hq hc => by
      obtain ⟨x, hx, rfl⟩ := List.mem_map.mp hq
      have hsame := State.eq_request_of_tag hd hr hx (by simpa using hc)
      rw [Request.afterReturn_spindle, hsame]
    have hfilter : (s.table.map (Request.afterReturn n)).filter (fun q => q.tag != r.tag) =
        (s.table.filter fun q => q.tag != r.tag).map (Request.afterReturn n) := by
      simp only [List.filter_map, Function.comp_def, Request.afterReturn_tag]
    rw [State.Graded, hhold, htable, ← hn, ← regradeBarriers_evaluated, ← hfilter]
    exact hgone.regrade rfl

theorem State.request_isSome_of_mem {r : Request} (hr : r ∈ s.table) (ht : r.tag = t) : (s.request t).isSome = true := by
  rw [State.request, List.find?_isSome]
  exact ⟨r, hr, by simp [ht]⟩

/-- R96: the completion of a request keeps the hold reasons up to date. -/
theorem State.complete_holds (s : State) (t : Tag) (o : Outcome) (cause : Option Cause) : HoldsKept s (s.complete t o cause) := by
  cases hr : (s.request t).isSome with
  | false =>
    rw [State.complete_free (by simpa using hr)]
    exact HoldsKept.refl s
  | true =>
    have hchan := State.complete_chan o cause hr
    refine ⟨fun h => ?_, fun hidle => by simp [hchan, hidle]⟩
    rw [State.holdsExact_iff] at h ⊢
    refine ⟨?_, State.complete_graded o cause h.1.1 h.2⟩
    have hengaged := h.1
    rw [State.engagementExact_iff] at hengaged ⊢
    obtain ⟨hdistinct, hactive, hfound⟩ := hengaged
    rw [State.complete_seats, hchan]
    refine ⟨hdistinct.sublist (List.filter_sublist.map _), fun x hx => ?_, fun y hy => ?_⟩
    · obtain ⟨hx, hne⟩ := List.mem_filter.mp hx
      rw [hactive x hx]
      split
      · next hsame =>
        cases hc : s.chan with
        | none => simp
        | some e =>
          have he : e.tag = t := by simpa [hc] using hsame
          have hxt : x.1 ≠ t := by simpa using hne
          simp [Engagement.seat, he, hxt.symm]
      · rfl
    · split at hy
      · simp at hy
      · next hother =>
        obtain ⟨x, hx, hxtag, hxspindle⟩ := hfound y hy
        refine ⟨x, List.mem_filter.mpr ⟨hx, ?_⟩, hxtag, hxspindle⟩
        obtain ⟨e, he, rfl⟩ := Option.map_eq_some_iff.mp hy
        rw [hxtag]
        simpa [he, Engagement.seat] using hother

/-! ### Engagements given up -/

/-- The channel is idle, and every ACTIVE request is among those of some tags that are still to complete. -/
structure State.Abandoned (s : State) (l : List Tag) : Prop where
  distinct : s.TagsDistinct
  idle : s.chan = none
  graded : s.Graded
  active : ∀ x ∈ s.table.map Request.seat, x.2.2 = true → x.1 ∈ l

theorem State.Abandoned.holdsExact (h : s.Abandoned []) : s.HoldsExact := by
  rw [State.holdsExact_iff, State.engagementExact_iff, h.idle]
  refine ⟨⟨?_, fun x hx => ⟨fun hactive => absurd (h.active x hx hactive) List.not_mem_nil, by simp⟩, by simp⟩, h.graded⟩
  have hdistinct := h.distinct
  rwa [State.TagsDistinct, State.admissionList, ← show Prod.fst ∘ Request.seat = Request.tag from rfl, ← List.map_map] at hdistinct

theorem State.Abandoned.complete {l : List Tag} (h : s.Abandoned (t :: l)) (o : Outcome) (cause : Option Cause) :
    (s.complete t o cause).Abandoned l where
  distinct := State.complete_tagsDistinct h.distinct t o cause
  idle := (s.complete_holds t o cause).idle h.idle
  graded := State.complete_graded o cause h.distinct h.graded
  active x hx hactive := by
    rw [State.complete_seats] at hx
    obtain ⟨hx, hne⟩ := List.mem_filter.mp hx
    exact (List.mem_cons.mp (h.active x hx hactive)).resolve_left (by simpa using hne)

theorem State.Abandoned.complete_all {l : List Tag} (h : s.Abandoned l) (o : Outcome) (cause : Option Cause) :
    (l.foldl (fun u t => u.complete t o cause) s).HoldsExact := by
  induction l generalizing s with
  | nil => exact h.holdsExact
  | cons t l ih => exact ih (h.complete o cause)

/-- R145: the channel's record cleared, its request not yet given back or completed. -/
theorem State.HoldsExact.closed {e : Engagement} (h : s.HoldsExact) (hchan : s.chan = some e) {l : List Tag} (hl : e.tag ∈ l) :
    s.closeChannel.Abandoned l := by
  rw [State.holdsExact_iff, State.engagementExact_iff] at h
  obtain ⟨⟨hdistinct, hactive, -⟩, hgraded⟩ := h
  have hreturn := s.returnBuffers_steady e.buffers
  have hclosed : s.closeChannel.table = (s.returnBuffers e.buffers).table := by
    rw [State.closeChannel_eq hchan, State.returnBuffers_eq]
    rfl
  have hseats : s.closeChannel.table.map Request.seat = s.table.map Request.seat := by rw [hclosed, hreturn.seats]
  refine ⟨?_, by rw [State.closeChannel_eq hchan]; rfl, ?_, fun x hx hx' => ?_⟩
  · rwa [State.TagsDistinct, State.admissionList, ← show Prod.fst ∘ Request.seat = Request.tag from rfl, ← List.map_map, hseats]
  · have hstill : Steady (s.returnBuffers e.buffers) { s.closeChannel with chan := s.chan } :=
      .still hclosed (by simp) (by simp [State.spindleHold, State.spindle])
    exact hstill.graded (hreturn.graded hgraded)
  · rw [hseats] at hx
    have hengaged := (hactive x hx).mp hx'
    rw [hchan] at hengaged
    have htag : e.tag = x.1 := by simpa [Engagement.seat] using hengaged
    rwa [← htag]

/-- R39, R40, R99, R147: the channel aborts on a spindle, whose requests complete. -/
theorem State.abort_completeAll_holds (p : Port) (o : Outcome) (cause : Option Cause) :
    HoldsKept s ((s.abortChannel p).completeAll p o cause) := by
  have completes (u : State) : HoldsKept u (u.completeAll p o cause) := HoldsKept.foldl (fun u t => u.complete_holds t o cause) _ u
  cases hchan : s.chan with
  | none =>
    rw [State.abortChannel, hchan]
    exact completes s
  | some e =>
    by_cases he : e.spindle = p
    · refine ⟨fun h => ?_, fun hidle => by simp [hchan] at hidle⟩
      have hsteady : Steady s s.tearSector.countWholeSlot :=
        Steady.trans (t := s.tearSector) .still (State.countWholeSlot_steady _)
      have hu := hsteady.kept.holds h
      have hchanU : s.tearSector.countWholeSlot.chan = some e := by simpa using hchan
      have habort : s.abortChannel p = s.tearSector.countWholeSlot.closeChannel := by
        rw [State.abortChannel, hchan]
        exact if_pos he
      rw [habort, State.completeAll]
      refine State.Abandoned.complete_all (hu.closed hchanU ?_) o cause
      obtain ⟨⟨-, -, hfound⟩, -⟩ := hu
      obtain ⟨r, hr, htag, hspindle⟩ := hfound e hchanU
      have hclosed : (r.afterReturn e.buffers) ∈ s.tearSector.countWholeSlot.closeChannel.table := by
        rw [State.closeChannel_eq hchanU]
        exact List.mem_map_of_mem hr
      rw [State.completionOrder_eq, List.mem_map]
      exact ⟨_, mem_leavingOrder.mpr ⟨hclosed, by rw [Request.afterReturn_spindle, hspindle, he]⟩, by rw [Request.afterReturn_tag, htag]⟩
    · have hstands : s.abortChannel p = s := by
        rw [State.abortChannel, hchan]
        exact if_neg he
      rw [hstands]
      exact completes s

/-- R39, R40: a spindle leaves service. -/
theorem State.leaveService_holds (p : Port) (st : SpindleState) (o : Outcome) (cause : Option Cause) :
    HoldsKept s (s.leaveService p st o cause) :=
  (State.outOfService_steady st cause).kept.trans (State.abort_completeAll_holds p o cause)

theorem State.enterFaulted_holds (s : State) (p : Port) (c : Cause) : HoldsKept s (s.enterFaulted p c) :=
  State.leaveService_holds p .faulted .spindleFault (some c)

theorem State.enterAbsent_holds (s : State) (p : Port) : HoldsKept s (s.enterAbsent p) :=
  State.leaveService_holds p .absent .spindleAbsent none

end

end Sys2Proof.Machine
end

section
/-! Release, engagement, admission and the end of an event keep the hold reasons up to date (R86, R124, R81, R107, R181). -/

-- One declaration after another: elaborated in parallel, these files ask for more memory than a check has.
set_option Elab.async false

namespace Sys2Proof.Machine

section
variable {s : State} {t : Tag}

/-! ### Release -/

/-- The engaged request's tag. -/
def State.Engages (s : State) (t : Tag) : Prop := ∃ e, s.chan = some e ∧ e.tag = t

/-- R82: the engaged request is in the table, and it is ACTIVE. -/
theorem State.Engages.request (h : s.Engages t) (hexact : s.EngagementExact) : ∃ r, s.request t = some r ∧ r.status = .active := by
  obtain ⟨e, hchan, rfl⟩ := h
  obtain ⟨hd, hactive, hfound⟩ := hexact
  obtain ⟨r, hr, htag, -⟩ := hfound e hchan
  refine ⟨r, htag ▸ State.request_of_mem hd hr, (hactive r hr).mpr ?_⟩
  simp [hchan, htag]

/-- R82: only the engaged request is ACTIVE. -/
theorem State.Engages.active (h : s.Engages t) (hexact : s.EngagementExact) {r : Request} (hr : r ∈ s.table) (ht : r.tag = t) :
    r.status = .active := by
  obtain ⟨q, hq, hactive⟩ := h.request hexact
  rwa [State.eq_request_of_tag hexact.1 hq hr ht]

/-- Every request changed, each against the ones before it. -/
theorem GradedBehind.map_split {hold hold' : Port → Bool} {l : List Request} {f : Request → Request}
    (hfence : ∀ r ∈ l, (f r).fence = r.fence)
    (hf : ∀ before r after, l = before ++ r :: after → (f r).status ≠ .active →
      (r.status ≠ .active → r.Graded (hold r.spindle) (barrierHold before r)) → (f r).Graded (hold' r.spindle) (barrierHold before r))
    (h : GradedBehind hold [] l) : GradedBehind hold' [] (l.map f) := by
  rw [gradedBehind_iff] at h ⊢
  intro before' r' after' hl hactive
  obtain ⟨before, tail, hsplit, rfl, htail⟩ := List.map_eq_append_iff.mp hl
  obtain ⟨r, after, rfl, rfl, rfl⟩ := List.map_eq_cons_iff.mp htail
  have hmem (q : Request) (hq : q ∈ before) : q ∈ l := hsplit ▸ List.mem_append_left _ hq
  have hr := hfence r (hsplit ▸ List.mem_append_right _ List.mem_cons_self)
  have hbarrier : barrierHold ([] ++ before.map f) (f r) = barrierHold before r := by
    refine barrierHold_congr ?_ hr
    rw [List.nil_append, List.map_map]
    exact List.map_congr_left fun q hq => hfence q (hmem q hq)
  rw [hbarrier, show (f r).spindle = r.spindle from congrArg Prod.fst hr]
  exact hf before r after hsplit hactive fun hwaiting => h before r after hsplit hwaiting

/-- A released request, regraded with these hold reasons. -/
def Request.given (h : Holds) (r : Request) : Request := Request.regrade { r with holds := h, status := .held }

theorem Request.given_eq (h : Holds) (r : Request) :
    r.given h = { r with holds := h, status := if h.held then .held else .queued } := by
  unfold Request.given Request.regrade
  rfl

theorem Request.given_graded (h : Holds) {r : Request} (hdata : h.noData = noDataHold r) : (r.given h).Graded h.spindle h.barrier := by
  rw [Request.given_eq]
  unfold Request.Graded
  refine ⟨rfl, rfl, hdata, ?_⟩
  cases h.held <;> simp

/-- R86: the engaged request given back, its hold reasons evaluated afresh. -/
theorem State.Abandoned.given {r : Request} (h : s.Abandoned [t]) (hr : s.request t = some r) (noBuffer : Bool) :
    (s.modRequest t (Request.given (s.releaseHolds r noBuffer))).HoldsExact := by
  obtain rfl := State.request_tag hr
  obtain ⟨holds, hholds⟩ : ∃ holds, holds = s.releaseHolds r noBuffer := ⟨_, rfl⟩
  have hfields : holds.spindle = s.spindleHold r.spindle ∧ holds.barrier = barrierHold (s.olderThan r.tag) r ∧
      holds.noData = noDataHold r := by
    rw [hholds]
    exact ⟨rfl, rfl, rfl⟩
  obtain ⟨hspindle, hbarrier, hdata⟩ := hfields
  rw [← hholds]
  obtain ⟨f, hf⟩ : ∃ f : Request → Request, f = fun q => if q.tag = r.tag then q.given holds else q := ⟨_, rfl⟩
  have htable : (s.modRequest r.tag (Request.given holds)).table = s.table.map f := by rw [hf]; rfl
  have hnames (q : Request) : (f q).tag = q.tag ∧ (f q).fence = q.fence := by
    rw [hf]
    dsimp only
    split
    · rw [Request.given_eq]
      exact ⟨rfl, rfl⟩
    · exact ⟨rfl, rfl⟩
  refine State.Abandoned.holdsExact ⟨?_, h.idle, ?_, fun x hx hx' => ?_⟩
  · have hdistinct := h.distinct
    rwa [State.TagsDistinct, State.admissionList, htable, List.map_map, Function.comp_def, funext fun q => (hnames q).1]
  · rw [State.Graded, htable]
    refine GradedBehind.map_split (fun q _ => (hnames q).2) (fun before q after hl hactive hq => ?_) h.graded
    by_cases hsame : q.tag = r.tag
    · obtain rfl := State.eq_request_of_tag h.distinct hr (hl ▸ List.mem_append_right _ List.mem_cons_self) hsame
      rw [hf]
      dsimp only
      rw [if_pos rfl, ← State.olderThan_split h.distinct hl, ← hbarrier]
      exact hspindle ▸ Request.given_graded holds hdata
    · rw [hf] at hactive ⊢
      dsimp only at hactive ⊢
      rw [if_neg hsame] at hactive ⊢
      exact hq hactive
  · rw [htable, List.map_map] at hx
    obtain ⟨q, hq, rfl⟩ := List.mem_map.mp hx
    rw [hf] at hx'
    simp only [Function.comp_apply] at hx'
    split at hx'
    · rw [Request.given_eq] at hx'
      cases hheld : holds.held <;> simp [Request.seat, hheld] at hx'
    · next hother =>
      exact absurd (List.mem_singleton.mp (h.active _ (List.mem_map_of_mem hq) hx')) hother

/-- R136, R86: the release of the engaged request. -/
theorem State.release_holds (hengages : s.Engages t) (noBuffer : Bool) : HoldsKept s (s.release t noBuffer) := by
  obtain ⟨e, hchan, rfl⟩ := hengages
  refine ⟨fun h => ?_, fun hidle => by simp [hchan] at hidle⟩
  have hclosed := h.closed hchan (l := [e.tag]) List.mem_cons_self
  obtain ⟨r, hr, hstatus⟩ := State.Engages.request ⟨e, hchan, rfl⟩ h.1
  unfold State.release
  dsimp only
  split
  · next hnone =>
    have hgone : (s.closeChannel.request e.tag).isSome = true := by
      refine State.request_isSome_of_mem (r := r.afterReturn e.buffers) ?_ ?_
      · rw [State.closeChannel_eq hchan]
        exact List.mem_map_of_mem (State.request_mem hr)
      · rw [Request.afterReturn_tag, State.request_tag hr]
    simp [hnone] at hgone
  · next q hq =>
    split
    · exact (hclosed.complete _ _).holdsExact
    · exact hclosed.given hq noBuffer

/-! ### Engagement -/

theorem State.winner_mem {r : Request} (h : s.winner = some r) : r ∈ s.table := by
  have hcandidates {q : Request} (hq : q ∈ s.table.filter s.candidate) : q ∈ s.table := (List.mem_filter.mp hq).1
  unfold State.winner at h
  dsimp only at h
  split at h
  · next hfirst =>
    cases h
    exact hcandidates (List.mem_of_find?_eq_some hfirst)
  · split at h
    · exact hcandidates (firstLeast_mem h)
    · exact hcandidates (List.mem_filter.mp (firstLeast_mem h) |>.1)

/-- R117, R124: the channel is granted to a request of the table. -/
theorem State.engage_holds {r : Request} (hidle : s.chan = none) (hr : r ∈ s.table) (h : s.HoldsExact) : (s.engage r).HoldsExact := by
  obtain ⟨⟨hd, hactive, -⟩, hgraded⟩ := State.holdsExact_iff.mp h
  have hwaiting (q : Request) (hq : q ∈ s.table) : q.status ≠ .active := fun hq' => by simpa [hidle] using (hactive q hq).mp hq'
  obtain ⟨f, hf⟩ : ∃ f : Request → Request, f = fun q => if q.tag = r.tag then { q with status := .active } else q := ⟨_, rfl⟩
  have htable : (s.engage r).table = s.table.map f := by rw [hf]; rfl
  have hnames (q : Request) : (f q).tag = q.tag ∧ (f q).spindle = q.spindle ∧ (f q).fence = q.fence := by
    rw [hf]
    dsimp only
    split <;> exact ⟨rfl, rfl, rfl⟩
  have hstatus (q : Request) (hq : q ∈ s.table) : (f q).status = .active ↔ r.tag = q.tag := by
    rw [hf]
    dsimp only
    split
    · next ht => simp [ht]
    · next ht => simp [hwaiting q hq, Ne.symm ht]
  rw [State.holdsExact_iff]
  refine ⟨⟨?_, fun x hx => ?_, fun e he => ?_⟩, ?_⟩
  · rwa [State.TagsDistinct, State.admissionList, htable, List.map_map, Function.comp_def, funext fun q => (hnames q).1]
  · rw [htable] at hx
    obtain ⟨q, hq, rfl⟩ := List.mem_map.mp hx
    rw [hstatus q hq, (hnames q).1]
    simp [engagementOf]
  · rw [State.engage_chan] at he
    cases he
    exact ⟨f r, htable ▸ List.mem_map_of_mem hr, (hnames r).1, (hnames r).2.1⟩
  · rw [State.Graded, htable]
    refine hgraded.map rfl (fun q _ => (hnames q).2.2) fun q hq hq' => ⟨hwaiting q hq, fun b => ?_⟩
    have hother : f q = q := by
      have hne : q.tag ≠ r.tag := fun ht => hq' ((hstatus q hq).mpr ht.symm)
      rw [hf]
      exact if_neg hne
    rw [hother]
    exact id

/-! ### The end of an event -/

theorem State.reevaluate_holds (h : s.HoldsExact) : s.reevaluate.HoldsExact := by
  unfold State.reevaluate
  split
  · exact h
  · have hseeks := (Steady.foldl (fun u p => u.chooseSeek_steady (p := p)) allPorts s).kept.holds h
    unfold State.chooseChannel
    split
    · exact hseeks
    · next hidle =>
      split
      · exact hseeks
      · next hwinner => exact State.engage_holds hidle (State.winner_mem hwinner) hseeks

/-- R181: without requests and with the channel idle there is nothing to be up to date. -/
theorem State.HoldsExact.empty (htable : s.table = []) (hchan : s.chan = none) : s.HoldsExact := by
  refine ⟨⟨?_, ?_, ?_⟩, ?_⟩
  · rw [State.TagsDistinct, State.admissionList, htable]
    exact List.nodup_nil
  · simp [htable]
  · simp [hchan]
  · simp [htable]

/-- The end of an event keeps the hold reasons up to date, and a clearing step leaves none. -/
theorem finish_holds {b a : State} (h : stopDone b a = true ∨ a.HoldsExact) : (finish b a).HoldsExact := by
  cases hdone : stopDone b a with
  | true =>
    have hchan : a.chan = none := by
      simp only [stopDone, Bool.and_eq_true, Option.isNone_iff_eq_none] at hdone
      exact hdone.1.2
    have hframe := (a.clearingStep_eq (spindlesCleared b a)).1
    have htable : (a.clearingStep (spindlesCleared b a)).table = [] := congrArg State.table hframe
    have hidle : (a.clearingStep (spindlesCleared b a)).chan = none := (congrArg State.chan hframe).trans hchan
    rw [finish_cleared hdone]
    split
    · exact .empty (State.evalBudget_idle htable) (by simpa using hidle)
    · exact .empty htable hidle
  | false =>
    have hexact : a.HoldsExact := h.resolve_left (by simp [hdone])
    obtain ⟨u, hu⟩ : ∃ u, u = if budgetDue b a then a.evalBudget else a := ⟨_, rfl⟩
    have hbudget : u.HoldsExact := by
      rw [hu]
      split
      · exact State.evalBudget_steady.kept.holds hexact
      · exact hexact
    unfold finish
    rw [hdone, if_neg Bool.false_ne_true]
    dsimp only
    rw [← hu]
    split
    · exact State.reevaluate_holds hbudget
    · exact hbudget

theorem serve_holds {b a : State} (h : a.HoldsExact) : (serve b a).HoldsExact :=
  (Steady.quiet : Steady a (serve b a)).kept.holds h

/-! ### Admission -/

/-- R75: a request behind all others is graded by itself. -/
theorem GradedBehind.concat {hold : Port → Bool} {older l : List Request} {r : Request} (h : GradedBehind hold older l)
    (hr : r.status ≠ .active → r.Graded (hold r.spindle) (barrierHold (older ++ l) r)) : GradedBehind hold older (l ++ [r]) := by
  induction l generalizing older with
  | nil => exact ⟨by simpa using hr, trivial⟩
  | cons q rest ih =>
    obtain ⟨hfirst, hrest⟩ := h
    exact ⟨hfirst, ih hrest (by simpa using hr)⟩

/-- R81: the record of an admitted request, graded behind every request of the table. -/
theorem admittedRequest_graded (s : State) (m : SubmitRequest) :
    (admittedRequest s m).status ≠ .active ∧
      (admittedRequest s m).Graded (s.spindleHold m.spindle) (barrierHold s.table (admittedRequest s m)) := by
  obtain ⟨r, hr⟩ : ∃ r, r = newRequest s m := ⟨_, rfl⟩
  have hwaiting : r.status ≠ .active := by rw [hr]; exact Status.noConfusion
  have hadmitted : admittedRequest s m = r.withHolds ⟨s.spindleHold m.spindle, barrierHold s.table r, noDataHold r, false⟩ := by
    rw [admittedRequest_eq, hr]
  have hfence : (admittedRequest s m).fence = r.fence := by rw [hadmitted, Request.withHolds_fence]
  have hbarrier : barrierHold s.table (admittedRequest s m) = barrierHold s.table r := barrierHold_congr rfl hfence
  rw [hbarrier, hadmitted]
  exact ⟨fun h => hwaiting ((Request.withHolds_active _ _).mp h), Request.withHolds_graded hwaiting _ rfl⟩

/-- R81: an admission keeps the hold reasons up to date. -/
theorem State.admitRequest_holds {m : SubmitRequest} (hfree : submitRefusal s m = none) (h : s.HoldsExact) :
    (s.admitRequest m).HoldsExact := by
  refine State.registerDemand_steady.kept.holds ?_
  obtain ⟨hexact, hgraded⟩ := State.holdsExact_iff.mp h
  obtain ⟨hd, hactive, hfound⟩ := hexact
  obtain ⟨r, hr⟩ : ∃ r, r = admittedRequest s m := ⟨_, rfl⟩
  obtain ⟨hwaiting, hrGraded⟩ := admittedRequest_graded s m
  obtain ⟨htag, hspindle⟩ := admittedRequest_names (s := s) m
  rw [← hr] at hwaiting hrGraded htag hspindle ⊢
  have hfresh (q : Request) (hq : q ∈ s.table) : q.tag ≠ r.tag := by
    have hnone := List.find?_eq_none.mp (State.request_of_admitted hfree) q hq
    rw [htag]
    simpa using hnone
  rw [State.holdsExact_iff]
  refine ⟨⟨?_, fun q hq => ?_, fun e he => ?_⟩, ?_⟩
  · rw [State.TagsDistinct, State.admissionList, State.setTable_table, List.map_append]
    exact List.nodup_append.mpr ⟨hd, by simp, by simpa [State.admissionList] using hfresh⟩
  · rcases List.mem_append.mp hq with hq | hq
    · exact hactive q hq
    · rw [List.mem_singleton.mp hq]
      refine iff_of_false hwaiting fun hany => ?_
      cases he : s.chan with
      | none => simp [he] at hany
      | some e =>
        obtain ⟨x, hx, hxtag, -⟩ := hfound e he
        have hsame : e.tag = r.tag := by simpa [he] using hany
        exact hfresh x hx (hxtag.trans hsame)
  · obtain ⟨x, hx, hx'⟩ := hfound e he
    exact ⟨x, List.mem_append_left _ hx, hx'⟩
  · exact hgraded.concat fun _ => by rw [hspindle]; exact hrGraded

end

end Sys2Proof.Machine
end

section
/-! The Channel's operations keep the hold reasons up to date (R123 to R149), or stop the Channel for a RESTART. -/

-- One declaration after another: elaborated in parallel, these files ask for more memory than a check has.
set_option Elab.async false

namespace Sys2Proof.Machine

section
variable {s : State} {t : Tag} {e : Engagement}

theorem Steady.engages {v : State} (h : Steady s v) (hengages : s.Engages t) : v.Engages t := by
  obtain ⟨e, hchan, rfl⟩ := hengages
  have hseat := h.engaged
  rw [hchan] at hseat
  obtain ⟨x, hx, hsame⟩ := Option.map_eq_some_iff.mp hseat
  exact ⟨x, hx, congrArg Prod.fst hsame⟩

theorem State.engages_of_chan (h : s.chan = some e) : s.Engages e.tag := ⟨e, h, rfl⟩

/-- With a request engaged there is no idle channel to engage. -/
theorem State.Engages.kept {v : State} (hengages : s.Engages t) (h : s.HoldsExact → v.HoldsExact) : HoldsKept s v := by
  obtain ⟨e, hchan, -⟩ := hengages
  exact ⟨h, fun hidle => by simp [hchan] at hidle⟩

/-- R82: the engaged request is in the table, so that what is done without it is never done. -/
theorem State.Engages.absurd {v : State} (hengages : s.Engages t) (hnone : s.request t = none) : HoldsKept s v :=
  hengages.kept fun h => by
    obtain ⟨r, hr, -⟩ := hengages.request h.1
    simp [hnone] at hr

/-! ### Endings -/

theorem State.armLost_steady (s : State) (p : Port) : Steady s (s.armLost p) := by
  have hgiven : Steady s (s.modSpindle p fun r => { r with arm := .unknown }) := State.modSpindle_steady
  exact (hgiven.trans .quiet).trans State.issueRestore_steady

theorem State.completeRun_holds (s : State) (t : Tag) : HoldsKept s (s.completeRun t) := by
  unfold State.completeRun
  split
  · exact HoldsKept.refl s
  · exact s.complete_holds _ _ _

theorem Request.spendRetry_gentle (r : Request) : r.Gentle r.spendRetry := ⟨rfl, rfl, fun _ _ _ => id⟩

theorem State.spendRetry_steady (s : State) (t : Tag) : Steady s (s.modRequest t Request.spendRetry) :=
  State.modRequest_steady fun r _ _ => r.spendRetry_gentle

theorem State.positionError_holds (hengages : s.Engages e.tag) : HoldsKept s (s.positionError e) := by
  have hlost := s.armLost_steady e.spindle
  have hstill := hlost.engages hengages
  refine hlost.kept.trans ?_
  unfold State.positionError
  dsimp only
  split
  · next hnone => exact hstill.absurd hnone
  · split
    · exact State.complete_holds _ _ _ _
    · have hspent := (s.armLost e.spindle).spendRetry_steady e.tag
      exact hspent.kept.trans (State.release_holds (hspent.engages hstill) false)

theorem Engagement.searchFor_seat (e : Engagement) (a : Addr) : (e.searchFor a).seat = e.seat := rfl

/-- Table 7-4: an ending carried out. -/
theorem State.carryOut_holds (hengages : s.Engages e.tag) (ending : Ending) : HoldsKept s (s.carryOut e ending) := by
  have hrelease := State.release_holds hengages false
  unfold State.carryOut
  cases ending with
  | runEnd => exact s.completeRun_holds _
  | burstLimit => exact hrelease
  | cylinderEnd => exact hrelease
  | stagedEmpty => exact hrelease
  | trackEnd =>
    dsimp only
    split
    · next hnone => exact hengages.absurd hnone
    · split
      · exact hrelease
      · exact (s.modChan_steady fun x => x.searchFor_seat _).kept
  | positionError => exact State.positionError_holds hengages
  | searchFailure => exact s.complete_holds _ _ _
  | writeProtected => exact s.complete_holds _ _ _

theorem State.endWith_holds (s : State) (ending : Ending) : HoldsKept s (s.endWith ending) := by
  unfold State.endWith
  split
  · exact HoldsKept.refl s
  · next hchan =>
    split
    · exact State.carryOut_holds (State.engages_of_chan hchan) ending
    · exact (s.modChan_steady (by exact fun _ => rfl)).kept

/-- R134: the decisions after a sector end. -/
theorem State.afterSector_holds (s : State) (retry : Bool) : HoldsKept s (s.afterSector retry) := by
  have hsearch (a : Addr) : HoldsKept s (s.modChan fun x => x.searchFor a) := (s.modChan_steady fun x => x.searchFor_seat a).kept
  unfold State.afterSector
  split
  · exact HoldsKept.refl s
  · split
    · exact HoldsKept.refl s
    · dsimp only
      repeat' split
      · exact s.complete_holds _ _ _
      · exact hsearch _
      · exact s.endWith_holds _
      · exact s.endWith_holds _
      · exact s.endWith_holds _
      · exact s.endWith_holds _
      · exact s.endWith_holds _
      · exact hsearch _

theorem State.searchFailed_holds (s : State) : HoldsKept s s.searchFailed := by
  unfold State.searchFailed
  repeat' split
  · exact HoldsKept.refl s
  · exact s.endWith_holds _
  · exact s.complete_holds _ _ _
  · exact s.complete_holds _ _ _
  · exact HoldsKept.refl s

theorem State.cancelNow_holds (s : State) (t : Tag) : HoldsKept s (s.cancelNow t) := by
  unfold State.cancelNow
  repeat' split
  · exact HoldsKept.refl s
  · exact s.complete_holds _ _ _
  · exact s.complete_holds _ _ _
  · exact (s.countSector_steady t).kept.trans (State.complete_holds _ _ _ _)
  · exact HoldsKept.refl s
  · exact HoldsKept.refl s

/-! ### Header reads -/

theorem State.setPhase_steady (s : State) (ph : Phase) : Steady s (s.setPhase ph) := s.modChan_steady fun _ => rfl

theorem State.passOver_holds (s : State) (e : Engagement) : HoldsKept s (s.passOver e) := by
  unfold State.passOver
  split
  · exact s.searchFailed_holds
  · exact HoldsKept.refl s

theorem State.beginRead_holds (hengages : s.Engages e.tag) (w0 : Word) (slot : Nat) : HoldsKept s (s.beginRead e w0 slot) := by
  unfold State.beginRead
  split
  · exact State.release_holds hengages true
  · exact (Steady.trans (t := s.setFree (s.free - 1)) .quiet (State.setPhase_steady _ _)).kept

/-- R130: the staged head is taken of an ACTIVE request, whose NO_DATA waits for its release. -/
theorem State.beginWrite_holds (hengages : s.Engages e.tag) (r : Request) (w0 : Word) (slot : Nat) :
    HoldsKept s (s.beginWrite e r w0 slot) := by
  unfold State.beginWrite
  split
  · exact s.endWith_holds _
  · split
    · exact s.endWith_holds _
    · next rest _ =>
      refine hengages.kept fun h => ?_
      have htaken : Steady s (s.modRequest e.tag fun q => { q with staged := rest }) :=
        State.modRequest_steady fun q hq ht => ⟨rfl, rfl, fun hwaiting => absurd (hengages.active h.1 hq ht) hwaiting⟩
      exact (htaken.trans (State.setPhase_steady _ _)).kept.holds h

theorem State.beginData_holds (hengages : s.Engages e.tag) (w0 : Word) (slot : Nat) : HoldsKept s (s.beginData e w0 slot) := by
  unfold State.beginData
  split
  · exact HoldsKept.refl s
  · split
    · exact State.beginRead_holds hengages w0 slot
    · exact State.beginWrite_holds hengages _ w0 slot
    · exact (s.setPhase_steady _).kept
    · exact HoldsKept.refl s

theorem State.searchHeader_holds (hengages : s.Engages e.tag) (slot : Nat) (h : Option (Word × Word × Word)) :
    HoldsKept s (s.searchHeader e slot h) := by
  unfold State.searchHeader
  split
  · exact s.passOver_holds e
  · exact s.endWith_holds _
  · exact State.beginData_holds hengages _ slot

theorem State.judgePass_holds (s : State) (e : Engagement) (slot : Nat) (h : Option (Word × Word × Word)) :
    HoldsKept s (s.judgePass e slot h) := by
  unfold State.judgePass
  split
  · exact s.passOver_holds e
  · exact (s.armLost_steady _).kept.trans (State.complete_holds _ _ _ _)
  · exact (s.setPhase_steady _).kept

theorem State.passHeader_holds (s : State) (e : Engagement) (slot : Nat) (h : Option (Word × Word × Word)) :
    HoldsKept s (s.passHeader e slot h) := by
  unfold State.passHeader
  split
  · exact s.complete_holds _ _ _
  · split
    · exact s.searchFailed_holds
    · exact (s.modChan_steady (f := fun x => { x with lastJudged := s.limitReached e }) fun _ => rfl).kept.trans
        (State.judgePass_holds _ e slot h)

theorem State.headerRead_holds (s : State) (slot : Nat) (read : HeaderRead) : HoldsKept s (s.headerRead slot read) := by
  have hread : Steady s s.slotRead := s.modChan_steady fun _ => rfl
  unfold State.headerRead
  split
  · exact HoldsKept.refl s
  · next hchan =>
    split
    · split
      · exact hread.kept.trans (State.searchHeader_holds (hread.engages (State.engages_of_chan hchan)) slot _)
      · exact hread.kept.trans (State.passHeader_holds _ _ slot _)
      · exact HoldsKept.refl s
    · exact HoldsKept.refl s

/-! ### Stops -/

/-- The hold reasons kept up to date, or the Channel stopped for a RESTART, whose clearing step follows in the event (R149). -/
def KeptOrStopped (s v : State) : Prop := HoldsKept s v ∨ (v.stopRequest = true ∧ v.chan = none ∧ s.chan ≠ none)

theorem HoldsKept.orStopped {v : State} (h : HoldsKept s v) : KeptOrStopped s v := .inl h

theorem HoldsKept.andThen {u v : State} (h : HoldsKept s u) (k : KeptOrStopped u v) : KeptOrStopped s v :=
  k.imp h.trans fun ⟨hstop, hidle, hengaged⟩ => ⟨hstop, hidle, fun hnone => hengaged (h.idle hnone)⟩

theorem State.closeChannel_chan (s : State) : s.closeChannel.chan = none := by
  cases h : s.chan with
  | none => rw [State.closeChannel_idle h, h]
  | some e => rw [State.closeChannel_eq h]; rfl

theorem State.stopChannel_stopped (hstop : s.stopRequest = true) (hchan : s.chan ≠ none) : KeptOrStopped s s.stopChannel :=
  .inr ⟨by simpa [State.stopChannel] using hstop, s.closeChannel_chan, hchan⟩

/-! ### The ends of data fields and of format slots -/

/-- R142: the end of a format slot. -/
theorem State.formatSlotEnd_holds (s : State) (isIndex : Bool) : KeptOrStopped s (s.formatSlotEnd isIndex) := by
  unfold State.formatSlotEnd
  split
  · exact (HoldsKept.refl s).orStopped
  · next e hchan =>
    obtain ⟨u, hu⟩ : ∃ u, u = if e.phase = .formatWrite true then s.writeFormatSlot e else s := ⟨_, rfl⟩
    have hwritten : Steady s u := by
      rw [hu]
      split
      · exact .quiet
      · exact Steady.refl s
    have hframe : u.stopRequest = s.stopRequest ∧ u.chan = s.chan := by
      rw [hu]
      split <;> simp
    obtain ⟨hstop, hsame⟩ := hframe
    dsimp only
    rw [← hu]
    refine hwritten.kept.andThen ?_
    split
    · next hset => exact State.stopChannel_stopped (hstop.trans hset) (by simp [hsame, hchan])
    · refine (u.countSector_steady e.tag).kept.andThen (HoldsKept.orStopped ?_)
      repeat' split
      · exact HoldsKept.refl _
      · exact State.complete_holds _ _ _ _
      · exact State.completeRun_holds _ _
      · exact State.complete_holds _ _ _ _
      · exact (State.modChan_steady _ (by exact fun _ => rfl)).kept

theorem State.formatSlotWritten_holds (s : State) : KeptOrStopped s s.formatSlotWritten := by
  unfold State.formatSlotWritten
  split
  · exact (HoldsKept.refl s).orStopped
  · next e hchan =>
    split
    · have hwritten : Steady s (s.writeFormatSlot e) := .quiet
      refine hwritten.kept.andThen ?_
      dsimp only
      split
      · next hset => exact State.stopChannel_stopped (by simpa using hset) (by simp [hchan])
      · split
        · exact ((State.countSector_steady _ _).kept.trans (State.complete_holds _ _ _ _)).orStopped
        · exact (State.setPhase_steady _ _).kept.orStopped
    · exact (HoldsKept.refl s).orStopped

theorem State.sectorRead_holds (s : State) (e : Engagement) : HoldsKept s (s.sectorRead e) := by
  have hadvanced : Steady s (s.modChan fun x => { x.advance with phase := .search }) := s.modChan_steady fun _ => rfl
  exact (hadvanced.trans (State.countSector_steady _ _)).kept.trans (State.afterSector_holds _ _)

theorem State.deliverRead_steady (s : State) (e : Engagement) (data : List Word) (suspect : Bool) :
    Steady s (s.deliverRead e data suspect) := by
  unfold State.deliverRead
  split
  · exact .quiet
  · exact Steady.refl s

/-- R132: the end of a data field read for READ or VERIFY. -/
theorem State.readEnd_holds (s : State) (e : Engagement) (r : Request) (w0 : Word) (field : List Word × Option Word) :
    HoldsKept s (s.readEnd e r w0 field) := by
  unfold State.readEnd
  repeat' split
  · exact (s.deliverRead_steady e _ _).kept.trans (State.sectorRead_holds _ e)
  · have hretried := ((s.setPhase_steady .search).trans (State.returnBuffers_steady _ e.phase.buffers)).trans
      (State.spendRetry_steady _ e.tag)
    exact hretried.kept.trans (State.afterSector_holds _ true)
  · have hnoted : Steady (s.deliverRead e field.1 true)
      ((s.deliverRead e field.1 true).modRequest e.tag fun q => q.noteSuspect e.index) :=
      State.modRequest_steady fun _ _ _ => ⟨rfl, rfl, fun _ _ _ => id⟩
    exact ((s.deliverRead_steady e _ _).trans hnoted).kept.trans (State.sectorRead_holds _ e)
  · exact s.complete_holds _ _ _

/-- R130, R133, R149: the end of a written data field. -/
theorem State.writeEnd_holds (hchan : s.chan = some e) (r : Request) (w0 : Word) (slot : Nat) (b : Buffer) :
    KeptOrStopped s (s.writeEnd e r w0 slot b) := by
  have hwritten : Steady s (s.writeSector e w0 slot b) := .quiet
  unfold State.writeEnd
  dsimp only
  refine hwritten.kept.andThen ?_
  split
  · next hset => exact State.stopChannel_stopped (by simpa using hset) (by simp [hchan])
  · refine HoldsKept.orStopped ?_
    split
    · have hpends : Steady (s.writeSector e w0 slot b) ((s.writeSector e w0 slot b).pendSector e w0 b) :=
        State.modChan_steady _ fun _ => rfl
      exact hpends.kept.trans (State.afterSector_holds _ false)
    · have hadvanced : Steady (s.writeSector e w0 slot b)
          ((s.writeSector e w0 slot b).modChan fun x => { x.advance with phase := .search }) := State.modChan_steady _ fun _ => rfl
      exact ((hadvanced.trans (State.countSector_steady _ _)).trans (State.returnBuffers_steady _ 1)).kept.trans
        (State.afterSector_holds _ false)

theorem State.cleanPass_holds (hengages : s.Engages e.tag) (r : Request) : HoldsKept s (s.cleanPass e r) := by
  have hcleared : Steady s (s.modChan fun x => { x.searchFor (s.runAddress r e.index) with deferred := none }) :=
    s.modChan_steady fun _ => rfl
  refine hcleared.kept.trans ?_
  unfold State.cleanPass
  dsimp only
  split
  · exact HoldsKept.refl _
  · exact State.carryOut_holds (hcleared.engages hengages) _

/-- R140, R141: a pending sector found as written. -/
theorem State.entryGood_holds (hengages : s.Engages e.tag) (rest : List PendingEntry) : HoldsKept s (s.entryGood e rest) := by
  have hpassed : Steady s (s.modChan fun x => { x with pending := rest, phase := .pass none }) := s.modChan_steady fun _ => rfl
  have hcounted := (hpassed.trans (State.returnBuffers_steady _ 1)).trans (State.countSector_steady _ e.tag)
  refine hcounted.kept.trans ?_
  unfold State.entryGood
  dsimp only
  repeat' split
  · exact HoldsKept.refl _
  · exact State.complete_holds _ _ _ _
  · exact (State.modChan_steady _ (by exact fun _ => rfl)).kept
  · exact State.cleanPass_holds (hcounted.engages hengages) _

theorem State.passEnd_holds (hchan : s.chan = some e) (w0 : Word) (field : List Word × Option Word) :
    KeptOrStopped s (s.passEnd e w0 field) := by
  unfold State.passEnd
  split
  · next hset => exact State.stopChannel_stopped hset (by simp [hchan])
  · refine HoldsKept.orStopped ?_
    repeat' split
    · exact HoldsKept.refl s
    · exact State.entryGood_holds (State.engages_of_chan hchan) _
    · exact s.complete_holds _ _ _

theorem State.dataFieldEnd_holds (s : State) (read : FieldRead) : KeptOrStopped s (s.dataFieldEnd read) := by
  unfold State.dataFieldEnd
  split
  · exact (HoldsKept.refl s).orStopped
  · next hchan =>
    repeat' split
    · exact (HoldsKept.refl s).orStopped
    · exact (s.readEnd_holds _ _ _ _).orStopped
    · exact (s.readEnd_holds _ _ _ _).orStopped
    · exact State.writeEnd_holds hchan _ _ _ _
    · exact State.passEnd_holds hchan _ _
    · exact (HoldsKept.refl s).orStopped

end

end Sys2Proof.Machine
end

section
/-! Every step keeps the hold reasons up to date (R83 to R88): O59. -/

-- One declaration after another: elaborated in parallel, these files ask for more memory than a check has.
set_option Elab.async false

namespace Sys2Proof.Machine

section
variable {s : State} {p : Port}

/-! ### Marks -/

/-- R84: whatever changed of a spindle's records before a change of its state, SPINDLE is evaluated after it. -/
theorem State.modSpindle_enterState_steady (f : Spindle → Spindle) (st : SpindleState) :
    Steady s ((s.modSpindle p f).enterState p st) := by
  refine .evaluated (p := p) ?_ (by simp) fun q hq => ?_
  · rw [State.enterState_table, State.spindleHold, State.enterState_spindle_same]
    rfl
  · rw [State.spindleHold, State.enterState_spindle_of_ne _ st hq, (s.modSpindle_changes p f).2.2 q hq, State.spindleHold]

/-- R52: a change of a tracked flag reported, in READY where SPINDLE depends on it. -/
theorem State.reportTracked_steady {u : State} (htable : u.table = s.table) (hchan : u.chan = s.chan)
    (hothers : ∀ q, q ≠ p → u.spindle q = s.spindle q) (hstate : (u.spindle p).state = (s.spindle p).state) :
    Steady s (u.reportTracked p) := by
  have hold (q : Port) (hq : q ≠ p) : u.spindleHold q = s.spindleHold q := by rw [State.spindleHold, hothers q hq, State.spindleHold]
  unfold State.reportTracked
  split
  · refine .evaluated (p := p) ?_ (by simpa using hchan) fun q hq => ?_
    · rw [State.evalSpindleHold_eq, htable]
      rfl
    · rw [State.evalSpindleHold_eq]
      exact hold q hq
  · next hready =>
    refine .still htable (by rw [hchan]) fun q => ?_
    by_cases hq : q = p
    · have hnot : (s.spindle p).state ≠ .ready := hstate ▸ hready
      rw [hq, State.spindleHold, State.spindleHold, beq_false_of_ne hready, beq_false_of_ne hnot]
      rfl
    · exact hold q hq

theorem State.modTracker_reported (f : Tracker → Tracker) : Steady s ((s.modTracker p f).reportTracked p) := by
  obtain ⟨-, hsame, hother⟩ := s.modSpindle_changes p fun r => { r with tracker := f r.tracker }
  exact State.reportTracked_steady (by simp) (by simp) hother (by rw [State.modTracker, hsame])

theorem State.reportThreshold_holds (s : State) (p : Port) : HoldsKept s (s.reportThreshold p) := by
  unfold State.reportThreshold
  split
  · exact s.enterFaulted_holds _ _
  · exact HoldsKept.refl s

/-- R48: INDEX_LOST. -/
theorem State.indexLost_holds (s : State) (p : Port) : HoldsKept s (s.indexLost p) := by
  obtain ⟨-, hsame, hother⟩ := s.modSpindle_changes p fun r => { r with tracker := r.tracker.indexLost s.params.trackFaultLimit }
  have hreported : Steady s (((s.modTracker p fun t => t.indexLost s.params.trackFaultLimit).post p eventPositionLost).reportTracked p) :=
    State.reportTracked_steady (by simp) (by simp) (fun q hq => by rw [State.post_spindle, State.modTracker, hother q hq])
      (by rw [State.post_spindle, State.modTracker, hsame])
  exact hreported.kept.trans (State.reportThreshold_holds _ _)

theorem State.shortRevolution_holds (s : State) (p : Port) : HoldsKept s (s.shortRevolution p) := by
  have hcounted : Steady s (s.modTracker p fun t => t.shortRevolution s.params.trackFaultLimit s.now) := State.modSpindle_steady
  exact (hcounted.trans .quiet).kept.trans (State.reportThreshold_holds _ _)

theorem State.trackSector_holds (s : State) (p : Port) : HoldsKept s (s.trackSector p) := by
  unfold State.trackSector
  dsimp only
  split
  · split
    · exact (State.modSpindle_steady : Steady s (s.modTracker p fun t => { t with sector := t.sector + 1 })).kept
    · exact s.indexLost_holds p
  · exact HoldsKept.refl s

theorem State.enterReady_steady (s : State) (p : Port) : Steady s (s.enterReady p) := by
  have hready : Steady s ((s.modTracker p fun t => t.acquire s.now).enterState p .ready) := State.modSpindle_enterState_steady _ .ready
  obtain ⟨u, hu⟩ : ∃ u, u = ((s.modTracker p fun t => t.acquire s.now).enterState p .ready).issueRestore p := ⟨_, rfl⟩
  have hrestored : Steady s u := hu ▸ hready.trans State.issueRestore_steady
  have htail : Steady u ((u.touchActivity p).startIdle p) := Steady.trans .quiet State.startIdle_steady
  rw [State.enterReady, ← hu]
  exact hrestored.trans htail

theorem State.trackIndex_holds (s : State) (p : Port) : HoldsKept s (s.trackIndex p) := by
  unfold State.trackIndex
  dsimp only
  split
  · next htracked =>
    split
    · exact (State.modSpindle_steady (by rfl) htracked.symm : Steady s (s.modTracker p fun t => t.clean s.now)).kept
    · exact s.shortRevolution_holds p
  · split
    · exact (State.modTracker_reported _).kept
    · exact HoldsKept.refl s

theorem State.spindleIndex_holds (s : State) (p : Port) : HoldsKept s (s.spindleIndex p) := by
  unfold State.spindleIndex
  dsimp only
  repeat' split
  · exact (s.enterReady_steady p).kept
  · exact s.trackIndex_holds p
  · exact HoldsKept.refl s

theorem State.countedMark_holds (s : State) (e : Engagement) (isIndex : Bool) : HoldsKept s (s.countedMark e isIndex) := by
  have hcounted : Steady s (s.modChan fun x => x.countMark isIndex) := s.modChan_steady fun _ => rfl
  unfold State.countedMark
  dsimp only
  split
  · exact hcounted.kept.trans (State.searchFailed_holds _)
  · exact hcounted.kept

theorem State.formatIndex_holds (s : State) (e : Engagement) : HoldsKept s (s.formatIndex e) := by
  unfold State.formatIndex
  split
  · exact s.complete_holds _ _ _
  · exact (s.modChan_steady (by exact fun _ => rfl)).kept

theorem State.channelMark_holds (s : State) (p : Port) (isIndex : Bool) : KeptOrStopped s (s.channelMark p isIndex) := by
  unfold State.channelMark
  split
  · exact (HoldsKept.refl s).orStopped
  · split
    · split
      · exact (s.countedMark_holds _ _).orStopped
      · exact (s.countedMark_holds _ _).orStopped
      · split
        · exact (s.formatIndex_holds _).orStopped
        · exact (s.countedMark_holds _ _).orStopped
      · exact s.formatSlotEnd_holds _
      · exact (HoldsKept.refl s).orStopped
      · exact (HoldsKept.refl s).orStopped
      · exact (HoldsKept.refl s).orStopped
    · exact (HoldsKept.refl s).orStopped

/-! ### Lines, timers and arms -/

theorem State.setLines_steady (l : Lines) : Steady s (s.setLines p l) := State.modSpindle_steady

theorem State.presFall_holds (s : State) (p : Port) : HoldsKept s (s.presFall p) := by
  unfold State.presFall
  split
  · exact HoldsKept.refl s
  · exact HoldsKept.refl s
  · exact s.enterAbsent_holds p

theorem State.presRise_steady (s : State) (p : Port) : Steady s (s.presRise p) := by
  unfold State.presRise
  split
  · exact State.enterState_steady _
  · exact Steady.refl s

theorem State.spunChange_holds (s : State) (p : Port) (level : Bool) : HoldsKept s (s.spunChange p level) := by
  unfold State.spunChange
  repeat' split
  · exact HoldsKept.refl s
  · exact s.enterFaulted_holds _ _
  · exact State.endSpinDown_steady.kept
  · exact HoldsKept.refl s

theorem State.unitFault_holds (s : State) (p : Port) : HoldsKept s (s.unitFault p) := by
  unfold State.unitFault
  split
  · exact HoldsKept.refl s
  · exact HoldsKept.refl s
  · exact HoldsKept.refl s
  · exact s.enterFaulted_holds _ _

theorem State.clockTo_steady (s : State) (n : Nat) : Steady s (s.clockTo n) := .quiet

theorem State.spinUpTimeout_holds (s : State) (p : Port) : HoldsKept s (s.spinUpTimeout p) := by
  unfold State.spinUpTimeout
  split
  · exact (s.clockTo_steady _).kept.trans (State.enterFaulted_holds _ _ _)
  · exact HoldsKept.refl s

theorem State.spinDownTimeout_holds (s : State) (p : Port) : HoldsKept s (s.spinDownTimeout p) := by
  unfold State.spinDownTimeout
  split
  · exact (s.clockTo_steady _).kept.trans (State.enterFaulted_holds _ _ _)
  · exact HoldsKept.refl s

theorem State.idleTimeout_steady (s : State) (p : Port) : Steady s (s.idleTimeout p) := by
  unfold State.idleTimeout
  split
  · exact (s.clockTo_steady _).trans State.enterSpinningDown_steady
  · exact Steady.refl s

theorem State.ageTimeout_steady (s : State) (t : Tag) : Steady s (s.ageTimeout t) := by
  unfold State.ageTimeout
  split
  · exact Steady.refl s
  · exact (s.clockTo_steady _).trans (State.modRequest_steady fun _ _ _ => ⟨rfl, rfl, fun _ _ _ => id⟩)

theorem State.motionDone_steady (s : State) (p : Port) : Steady s (s.motionDone p) := by
  unfold State.motionDone
  split
  · exact State.modSpindle_steady
  · exact State.modSpindle_steady
  · exact Steady.refl s

theorem State.chargeOwner_holds (s : State) (owner : Option Tag) : HoldsKept s (s.chargeOwner owner) := by
  unfold State.chargeOwner
  repeat' split
  · exact HoldsKept.refl s
  · exact HoldsKept.refl s
  · exact s.complete_holds _ _ _
  · exact (s.spendRetry_steady _).kept

/-- R61, R64: the motion in flight fails. -/
theorem State.motionFailed_holds (s : State) (p : Port) : HoldsKept s (s.motionFailed p) := by
  unfold State.motionFailed
  split
  · exact s.enterFaulted_holds _ _
  · have hgiven : Steady s (s.setArm p .unknown) := State.modSpindle_steady
    have hlost : Steady s ((s.setArm p .unknown).post p eventArmLost) := hgiven.trans .quiet
    exact (hlost.kept.trans (State.chargeOwner_holds _ _)).trans State.issueRestore_steady.kept
  · exact HoldsKept.refl s

theorem State.motionTimeout_holds (s : State) (p : Port) : HoldsKept s (s.motionTimeout p) := by
  unfold State.motionTimeout
  split
  · exact HoldsKept.refl s
  · exact (s.clockTo_steady _).kept.trans (State.motionFailed_holds _ p)

theorem State.endTransmission_steady (s : State) : Steady s s.endTransmission := by
  unfold State.endTransmission
  split
  · exact Steady.refl s
  · exact Steady.trans (t := s.setLine none) .quiet (State.returnBuffers_steady _ _)

theorem State.postConfigured_steady (s : State) (p : Port) (kind : EventSet) : Steady s (s.postConfigured p kind) := .quiet

/-- The effect of every event keeps the hold reasons up to date, or stops the Channel for a RESTART. -/
theorem EventEffect.holds {v : State} (h : EventEffect s v) : KeptOrStopped s v := by
  cases h with
  | frameBegun => exact (Steady.kept .quiet).orStopped
  | frameReceived => exact (Steady.kept .quiet).orStopped
  | lengthError => exact (Steady.kept .quiet).orStopped
  | gapTimeout => exact (Steady.kept .quiet).orStopped
  | transmissionEnd => exact s.endTransmission_steady.kept.orStopped
  | presFalling p _ =>
    rw [State.setPres_eq]
    exact ((State.setLines_steady _).kept.trans (State.presFall_holds _ p)).orStopped
  | presRising p _ =>
    rw [State.setPres_eq]
    exact ((State.setLines_steady _).trans (State.presRise_steady _ p)).kept.orStopped
  | spunChange p level =>
    rw [State.setSpun_eq]
    exact ((State.setLines_steady _).kept.trans (State.spunChange_holds _ p level)).orStopped
  | unitFault p => exact (s.unitFault_holds p).orStopped
  | wprChange p level =>
    rw [State.setWpr_eq]
    exact ((State.setLines_steady _).trans (State.postConfigured_steady _ p _)).kept.orStopped
  | attention p => exact (s.postConfigured_steady p _).kept.orStopped
  | sectorMark p => exact (s.trackSector_holds p).andThen (State.channelMark_holds _ p _)
  | indexMark p moment =>
    exact ((s.clockTo_steady moment).kept.trans (State.spindleIndex_holds _ p)).andThen (State.channelMark_holds _ p _)
  | formatSlotWritten => exact s.formatSlotWritten_holds
  | headerRead slot read => exact (s.headerRead_holds slot read).orStopped
  | dataFieldEnd read => exact s.dataFieldEnd_holds read
  | motionDone p _ => exact (s.motionDone_steady p).kept.orStopped
  | motionFailed p _ => exact (s.motionFailed_holds p).orStopped
  | motionTimeout p _ => exact (s.motionTimeout_holds p).orStopped
  | spinUpTimeout p => exact (s.spinUpTimeout_holds p).orStopped
  | spinDownTimeout p => exact (s.spinDownTimeout_holds p).orStopped
  | idleTimeout p => exact (s.idleTimeout_steady p).kept.orStopped
  | ageTimeout t => exact (s.ageTimeout_steady t).kept.orStopped

/-! ### Messages -/

/-- R156: the payload staged, NO_DATA goes. -/
theorem State.stage_steady (s : State) (t : Tag) (index : Nat) (payload : List Byte) : Steady s (s.stage t index payload) := by
  rw [State.stage_eq]
  refine .map rfl (fun q _ => ?_) rfl fun _ => rfl
  split
  · obtain ⟨r, hr⟩ : ∃ r : Request, r = { q with staged := q.staged ++ [⟨t, index, payload⟩], frontier := q.frontier + 1 } := ⟨_, rfl⟩
    have hsame : r.seat = q.seat ∧ r.fence = q.fence ∧ r.status = q.status ∧ noDataHold r = false := by
      rw [hr]
      exact ⟨rfl, rfl, rfl, by simp [noDataHold]⟩
    obtain ⟨hseat, hfence, hstatus, hdata⟩ := hsame
    rw [← hr]
    refine ⟨(r.withHolds_seat _).trans hseat, (r.withHolds_fence _).trans hfence, fun hwaiting a b h => ?_⟩
    obtain ⟨rfl, rfl, -, -⟩ := h
    exact Request.withHolds_graded (hstatus ▸ hwaiting) _ hdata.symm
  · exact .refl q

theorem State.cancel_holds (s : State) (r : Request) : HoldsKept s (s.cancel r) := by
  have hflagged : Steady s (s.modRequest r.tag fun q => { q with cancelPending := true }) :=
    State.modRequest_steady fun _ _ _ => ⟨rfl, rfl, fun _ _ _ => id⟩
  unfold State.cancel
  split
  · exact hflagged.kept.trans (State.cancelNow_holds _ _)
  · exact s.complete_holds _ _ _

theorem Request.retime_gentle (r : Request) (now limit : Nat) : r.Gentle (r.retime now limit) := by
  unfold Request.retime
  repeat' split
  all_goals exact ⟨rfl, rfl, fun _ _ _ => id⟩

theorem State.applyParam_steady (s : State) (id : ParamId) (v : Nat) : Steady s (s.applyParam id v) := by
  have hhold (q : Port) : (s.applyParam id v).spindleHold q = s.spindleHold q := by
    rw [State.spindleHold, State.applyParam_spindle, State.spindleHold]
  by_cases hid : id = .ageLimit
  · subst hid
    exact .map (f := fun r => r.retime s.now v) rfl (fun r _ => r.retime_gentle _ _) (by simp) hhold
  · refine .still ?_ (by simp) hhold
    cases id <;> simp [State.applyParam] at hid ⊢

theorem State.configure_steady (s : State) (p : Port) (g : Geometry) : Steady s (s.configure p g) := by
  unfold State.configure
  dsimp only
  split
  · exact State.modSpindle_steady
  · exact State.modSpindle_enterState_steady _ _

theorem State.deconfigure_steady (s : State) (p : Port) : Steady s (s.deconfigure p) := by
  have hforgotten : Steady s (s.modSpindle p fun r => { r with geometry := none, cause := none }) := State.modSpindle_steady
  exact (hforgotten.trans .quiet).trans (State.enterState_steady .unconfigured)

theorem judgeSpinUp_steady (p : Port) (s : State) : Steady s (judgeSpinUp p s).state := by
  have hpinned : Steady s (s.pin p) := State.modSpindle_steady
  unfold judgeSpinUp
  split
  · exact Steady.refl s
  · exact Steady.refl s
  · exact Steady.refl s
  · exact hpinned.trans State.joinWait_steady
  · exact hpinned
  · exact hpinned
  · exact hpinned.trans (State.modSpindle_steady (f := fun r => { r with idleTimer := none }))
  · exact hpinned.trans (State.modSpindle_steady (f := fun r => { r with respin := true }))

theorem judgeSpinDown_steady (p : Port) (s : State) : Steady s (judgeSpinDown p s).state := by
  have hunpinned : Steady s (s.unpin p) := State.modSpindle_steady
  unfold judgeSpinDown
  split
  · exact Steady.refl s
  · split
    · exact Steady.refl s
    · exact Steady.refl s
    · exact Steady.refl s
    · exact hunpinned
    · exact hunpinned.trans (State.enterState_steady _)
    · exact hunpinned.trans State.enterSpinningDown_steady
    · exact hunpinned.trans State.enterSpinningDown_steady
    · exact hunpinned.trans (State.modSpindle_steady (f := fun r => { r with respin := false }))

/-- The effect of every message keeps the hold reasons up to date. -/
theorem MessageEffect.holds {v : State} (h : MessageEffect s v) (hs : s.HoldsExact) : v.HoldsExact := by
  cases h with
  | none => exact hs
  | submit m q _ hfree => exact State.admitRequest_holds hfree hs
  | wdata t r index payload => exact (s.stage_steady t index payload).kept.holds hs
  | cancel t r => exact (s.cancel_holds r).holds hs
  | configure p g => exact (s.configure_steady p g).kept.holds hs
  | deconfigure p => exact (s.deconfigure_steady p).kept.holds hs
  | spinUp p _ h => exact (show (judgeSpinUp p s).state = v from congrArg Judged.state h) ▸ (judgeSpinUp_steady p s).kept.holds hs
  | spinDown p _ h => exact (show (judgeSpinDown p s).state = v from congrArg Judged.state h) ▸ (judgeSpinDown_steady p s).kept.holds hs
  | clearFault p => exact (State.modSpindle_enterState_steady _ _).kept.holds hs
  | setp id n => exact (s.applyParam_steady id n).kept.holds hs

/-- R149, R180: the taking of a RESTART. -/
theorem State.takeRestart_holds (s : State) (seq : Byte) : KeptOrStopped s (s.takeRestart seq) := by
  have hbegin : HoldsKept s (s.beginRestart seq) := Steady.kept .quiet
  refine hbegin.andThen ?_
  unfold State.takeRestart State.stopNow
  split
  · exact (HoldsKept.refl _).orStopped
  · next hchan =>
    split
    · exact State.stopChannel_stopped rfl fun hnone => by cases hnone.symm.trans hchan
    · exact (HoldsKept.refl _).orStopped

/-! ### Steps -/

/-- A Channel that has stopped for a RESTART makes the clearing step due (R181). -/
theorem KeptOrStopped.settled {v : State} (h : KeptOrStopped s v) (hs : s.HoldsExact) : (settle s v).HoldsExact := by
  refine serve_holds (finish_holds ?_)
  rcases h with hkept | ⟨hstop, hidle, hengaged⟩
  · exact .inr (hkept.holds hs)
  · have hbefore : s.chan.isNone = false := by simpa [Option.isSome_iff_ne_none] using hengaged
    exact .inl (by simp [stopDone, hstop, hidle, hbefore])

theorem Answer.holds {c : Instr} {t : State} (h : Answer c s t) (hs : s.HoldsExact) : t.HoldsExact := by
  have hpop : s.popInbound.HoldsExact := (Steady.kept .quiet).holds hs
  cases h with
  | stands => exact hs
  | event v _ h => exact h.holds.settled hs
  | message v kind seq code further _ h =>
    have hfinished := finish_holds (b := s.popInbound) (.inr (h.holds hpop))
    exact serve_holds ((Steady.quiet (t := State.pushReply _ kind seq code further)).kept.holds hfinished)
  | restart seq _ => exact (State.takeRestart_holds _ seq).settled hpop
  | level p f _ => exact (State.modSpindle_steady (f := fun r => { r with lines := f r.lines })).kept.holds hs
  | assertReset => exact (Steady.quiet rfl rfl rfl).kept.holds hs
  | hardwareReset => exact .empty rfl rfl

end

/-- Settles O59: `Steady` of the tick, and `Answer.holds` of every command. -/
theorem holdsStayExact : Obligations.HoldsStayExact := by
  unfold Obligations.HoldsStayExact
  intro s t hs hstep
  rcases step_answer hstep with rfl | ⟨c, rest, -, hanswer⟩
  · exact (Steady.kept .quiet).holds hs
  · exact hanswer.holds ((Steady.quiet (t := { s with pending := rest }) rfl rfl rfl).kept.holds hs)

end Sys2Proof.Machine
end
